-- ==== Sys2Proof/Word.lean ====
section
/-! DEFINITION. The word and byte types, and the names of the fixed index ranges of R7. -/

namespace Sys2Proof

/-- "Every value is an unsigned 32-bit word unless the rule states otherwise" (R9). -/
abbrev Word := BitVec 32

/-- A byte of the glue window (R66). -/
abbrev Byte := BitVec 8

/-- A function id, 0..7 (R7 `NFUNC`). -/
abbrev FnId := Fin 8

/-- A subfunction id, 0..30, or 31 = the broadcast sentinel (R7, R30). -/
abbrev SubId := Fin 32

/-- An index of the allocation table, 0..99 (R7 `NSLOT`). -/
abbrev SlotIx := Fin 100

/-- `BCAST`, the broadcast sentinel 0x1F (R7). -/
abbrev bcast : SubId := 31

end Sys2Proof
end

