-- ==== Sys2Proof/Machine/Types.lean ====
section
/-! DEFINITION. The named values and records that the state and the configuration are built from. -/

namespace Sys2Proof.Machine

/-- The chip variant (R2). -/
inductive Variant where
  | A | B
deriving DecidableEq, Repr, Inhabited

/-- A demux group of variant B (R191). -/
inductive Group where
  | glue | usb | dma
deriving DecidableEq, Repr, Inhabited

/-- One value for each demux group. -/
structure PerGroup (α : Type) where
  glue : α
  usb : α
  dma : α
deriving DecidableEq, Repr

/-- `BROADCAST_DEMUX` (R8, R201). -/
inductive BroadcastDemux where
  | skip | route
deriving DecidableEq, Repr, Inhabited

/-- Domain status `DOM[f]` (R33). -/
inductive DomStatus where
  | unbuilt | built | failed
deriving DecidableEq, Repr, Inhabited

/-- The parent `DOM_PARENT[f]` a domain was chained under (R33, R171). -/
inductive Parent where
  | none | vector | remap
deriving DecidableEq, Repr, Inhabited

/-- Vector-grant mode `MODE[f]` (R34). -/
inductive GrantMode where
  | none
  | perSub (n : Fin 32)
  | broadcast
deriving DecidableEq, Repr, Inhabited

/-- Line state `LINE[i].st` (R30, R31); Freed is not stored. -/
inductive LineState where
  | unconfigured | masked | unmasked
deriving DecidableEq, Repr, Inhabited

/-- A line record `LINE[i]` (R30). -/
structure Line where
  f : FnId
  s : SubId
  virq : Word
  mbits : Word
  st : LineState
  busy : Bool
deriving DecidableEq, Repr, Inhabited

/-- `ACK_LOCK` (R35). -/
inductive AckLock where
  | free
  | held (g : Group)
deriving DecidableEq, Repr, Inhabited

/-- The labelled step a demux agent that holds the lock takes next (R195, R196); before T4 it holds the value T3 read. -/
inductive LockStep where
  | t2 | t3
  | t4 (a : Word)
deriving DecidableEq, Repr, Inhabited

/-- The phase of a demux agent (R37). -/
inductive DmxPhase where
  | idle
  | locked (next : LockStep)
  | dispatching
deriving DecidableEq, Repr, Inhabited

/-- The local state of a demux agent `DMX[g]` (R37). -/
structure Dmx where
  phase : DmxPhase
  pendLeft : Word
deriving DecidableEq, Repr, Inhabited

/-- A command in progress: the labelled step it takes next and the locals it needs (R38).
The rules are R103 (SETM), R104 (CLRM), R105 (MASKSET), R135 (WRMSG), R140 (MASK), R141 (UNMASK). -/
inductive Work where
  | setmS2 (off mask t : Word)
  | clrmS2 (off mask t : Word)
  | masksetS2 (off clr set t : Word)
  | wrmsgS2 (i : SlotIx) (f : FnId) (s : SubId) (addr data t : Word)
  | wrmsgS3 (i : SlotIx) (f : FnId) (s : SubId) (addr data : Word)
  | wrmsgS4 (i : SlotIx) (f : FnId) (s : SubId) (data : Word)
  | wrmsgS5 (i : SlotIx) (f : FnId) (s : SubId) (data : Word)
  | wrmsgS6 (i : SlotIx)
  | wrmsgS7 (i : SlotIx) (t : Word)
  | maskS2 (i : SlotIx) (f : FnId) (b t : Word)
  | unmaskS2 (i : SlotIx) (f : FnId) (b t : Word)
deriving DecidableEq, Repr, Inhabited

/-- The status of a response: OK, the errors and the faults of R220 and R224, by name. -/
inductive Status where
  | ok
  | resourceBusy | domainCreationFailed | secondaryDomainFailed | allocationTableExhausted
  | mappingFailed | domainOrder | noDomain | grantFailed
  | illegalCommand | badOffset | notInitialized | badArgument | duplicateVirq | hwirqConflict
  | unknownVirq | lineState | reentry | controlState | composeNoSlot | modeViolation
deriving DecidableEq, Repr, Inhabited

/-- A response (R86): its status and the result words that follow the status word. -/
structure Response where
  status : Status
  results : List Word
deriving DecidableEq, Repr, Inhabited

/-- A command port `CP[r]` with the requester behind it (R22, R38): the words sent and not yet taken, the command in
progress (`none` is `Idle`), and the responses given, oldest first. -/
structure Port where
  words : List Word
  work : Option Work
  responses : List Response
deriving DecidableEq, Repr, Inhabited

/-- What the environment does at its step (R24, R250): nothing, one more word on a command port, an edge event on `EI`,
the creation of the instance (the reset), or its removal. -/
inductive Arrival where
  | quiet
  | word (r : Nat) (w : Word)
  | edge (h : Word)
  | create
  | remove
deriving DecidableEq, Repr, Inhabited

/-- Whose step is next (R24). -/
inductive Turn where
  | req (r : Nat)
  | dmx (g : Group)
  | dflt
  | env (a : Arrival)
deriving DecidableEq, Repr, Inhabited

/-- One access on the glue bus master `GB` (R22, R11): a read with the value it returned, or a write. -/
inductive GbOp where
  | read (off val : Word)
  | write (off val : Word)
deriving DecidableEq, Repr, Inhabited

/-- An entry of the model's record of `GB`: the access, and whose step made it. -/
structure GbAccess where
  agent : Turn
  op : GbOp
deriving DecidableEq, Repr, Inhabited

/-- One request on the parent-domain port `PD` (R22, R175). -/
inductive PdRequest where
  | remapLookup (platformId : Nat)
  | createDomain (parent : Parent) (f : FnId) (base : Word)
  | destroyDomain (f : FnId)
deriving DecidableEq, Repr, Inhabited

/-- A record of the dispatch log `DLOG` (R41). -/
structure DispatchRec where
  virq : Word
  hwirq : Word
deriving DecidableEq, Repr, Inhabited

end Sys2Proof.Machine
end

