-- ==== Sys2Proof/Machine/Flags.lean ====
section
/-! DEFINITION. The block has no condition flags (R100); its status codes, its sticky fault record and its counters are
computed here. -/

namespace Sys2Proof.Machine

/-- The status byte of R220 and the fault codes of R224. -/
def Status.code : Status → BitVec 8
  | .ok => 0x00
  | .resourceBusy => 0x01
  | .domainCreationFailed => 0x02
  | .secondaryDomainFailed => 0x03
  | .allocationTableExhausted => 0x04
  | .mappingFailed => 0x05
  | .domainOrder => 0x06
  | .noDomain => 0x07
  | .grantFailed => 0x08
  | .illegalCommand => 0x80
  | .badOffset => 0x81
  | .notInitialized => 0x82
  | .badArgument => 0x83
  | .duplicateVirq => 0x84
  | .hwirqConflict => 0x85
  | .unknownVirq => 0x86
  | .lineState => 0x87
  | .reentry => 0x88
  | .controlState => 0x89
  | .composeNoSlot => 0x8A
  | .modeViolation => 0x8B

/-- The statuses that are faults, 0x80–0x8B (R220, R224). -/
def Status.isFault (st : Status) : Bool := decide (0x80 ≤ st.code)

/-- The statuses that are errors, 0x01–0x08 (R220, R223). -/
def Status.isError (st : Status) : Bool := decide (st.code ≠ 0) && !st.isFault

/-- The words of a response: word 0 has the status in bits 7:0 and zeros above, then the result words (R86). -/
def Response.toWords (r : Response) : List Word := r.status.code.setWidth 32 :: r.results

/-- `min(FLT_COUNT + 1, 0xFFFFFFFF)` (R226). -/
def satSucc (n : Word) : Word := if n = 0xFFFFFFFF then n else n + 1

end Sys2Proof.Machine
end

