-- ==== Sys2Proof/Config.lean ====
section
/-! DEFINITION. The parameters of R7 and R8 as an arbitrary well-formed configuration, the draws of R23 and the other
free values. Nothing here has a value a proof can see, but `Params.ref`, the reference configuration of decision D36. -/

namespace Sys2Proof

open Sys2Proof.Machine

/-- The glue-window parameters of R8. "Every register parameter may take a different value for each `VARIANT`", so a
configuration holds one of these for each variant. -/
structure GlueRegs where
  /-- `GLUE_SIZE`, bytes. -/
  glueSize : Word
  /-- `VOLATILE_REGS`. -/
  volatileRegs : List Word
  /-- `ACK_CODE(g)`. -/
  ackCode : Group → Word
  /-- `ACK_WR_REG`. -/
  ackWr : Word
  /-- `ACK_RD_REG`. -/
  ackRd : Word
  /-- `GLUE_EN_REG`. -/
  glueEn : Word
  /-- `GLUE_EN_MASK`. -/
  glueEnMask : Word
  /-- `MASK_REG(f)`. -/
  maskReg : FnId → Word
  /-- `ADDR_REG(f)`. -/
  addrReg : FnId → Word
  /-- `DATA_HI_REG(f)`. -/
  dataHiReg : FnId → Word
  /-- `DATA_LO_REG(f, s)` (R137). -/
  dataLoReg : FnId → SubId → Word
  /-- `DATA_HI_VAL(d)`. -/
  dataHiVal : Word → Word
  /-- `DATA_LO_VAL(d)`. -/
  dataLoVal : Word → Word
deriving Inhabited

/-- The parameters of R8 and the launch contents of the glue window (R65). -/
structure Params where
  /-- `STRAP_VARIANT`, the static input that gives `VARIANT` (R22). -/
  strap : Variant
  /-- `GLUE_WIN_INDEX(v)`. -/
  winIndex : Variant → Fin 3
  /-- `SUBFUNC_COUNT(f)`. -/
  subfuncCount : FnId → Nat
  /-- `PRIMARY_FUNC`. -/
  primary : FnId
  /-- `FUNC_GLUE`, `FUNC_USB`, `FUNC_DMA`. -/
  funcOf : Group → FnId
  /-- `MSI_ADDR`. -/
  msiAddr : Word
  /-- `USB_SHIFT`, an argument by R8 whose value R191 says is 0x10; `Params.ok` asks for it (log 35). -/
  usbShift : Fin 32
  /-- `PLATFORM_ID`, an opaque key. -/
  platformId : Nat
  /-- `NUM_REQ` (log 8). -/
  numReq : Nat
  /-- `BROADCAST_DEMUX`. -/
  broadcastDemux : BroadcastDemux
  /-- `GLUE0`, byte by byte. -/
  glue0 : Nat → Byte
  /-- The glue-window parameters of each variant. -/
  regs : Variant → GlueRegs
deriving Inhabited

/-- An offset is admitted iff it is 4-aligned and at most `GLUE_SIZE − 4` (R63). -/
def GlueRegs.admits (g : GlueRegs) (off : Word) : Bool :=
  decide (off.extractLsb' 0 2 = 0) && decide (off ≤ g.glueSize - 4)

/-- The registers of R75 that are one per chip or one per function. -/
def GlueRegs.singles (g : GlueRegs) : List Word :=
  [g.glueEn, g.ackWr, g.ackRd] ++
    (List.finRange 8).flatMap fun f => [g.maskReg f, g.addrReg f, g.dataHiReg f]

/-- The subfunction ids a function with `n` subfunctions can have lines for: the concrete ones, and the sentinel. -/
def usedSubs (n : Nat) : List SubId :=
  (List.finRange 32).filter fun s => decide (s.val < n) || decide (s = bcast)

/-- The data-low registers function `f` uses. -/
def GlueRegs.dataLows (g : GlueRegs) (n : Nat) (f : FnId) : List Word :=
  (usedSubs n).map (g.dataLoReg f)

/-- Every data-low register there is, of a subfunction that is used or not. -/
def GlueRegs.allDataLows (g : GlueRegs) : List Word :=
  (List.finRange 8).flatMap fun f => (List.finRange 32).map (g.dataLoReg f)

/-- No two entries are equal. -/
def allDistinct : List Word → Bool
  | [] => true
  | x :: xs => !xs.contains x && allDistinct xs

/-- The conditions of R8, R63, R64 and R75 on one variant's glue-window parameters. Every offset parameter is admitted, and
no data-low register is another register of R75's table. Those that are used are pairwise distinct, but that a function
below 4 may have one for several subfunctions, as REF has (R137, log 13). -/
def GlueRegs.ok (g : GlueRegs) (count : FnId → Nat) : Bool :=
  decide (g.glueSize.extractLsb' 0 2 = 0) && decide (4 ≤ g.glueSize) &&
  (List.range 32).any (fun i => decide (g.glueEnMask = 1#32 <<< i)) &&
  g.volatileRegs.contains g.ackRd && g.volatileRegs.all g.admits &&
  g.singles.all g.admits && allDistinct g.singles &&
  g.allDataLows.all (fun o => g.admits o && !g.singles.contains o) &&
  (List.finRange 8).all (fun f => decide (f.val < 4) || allDistinct (g.dataLows (count f) f)) &&
  (List.finRange 8).all (fun f => (List.finRange 8).all fun f' =>
    decide (f = f') || (g.dataLows (count f) f).all fun o => !(g.dataLows (count f') f').contains o)

/-- A configuration a model accepts: counts in 1..31, at least one requester, three distinct group functions (R8),
`USB_SHIFT` 0x10 (R191, D23, log 35), and each variant's glue parameters well formed. -/
def Params.ok (p : Params) : Bool :=
  (List.finRange 8).all (fun f => decide (1 ≤ p.subfuncCount f) && decide (p.subfuncCount f ≤ 31)) &&
  decide (1 ≤ p.numReq) && decide (p.usbShift = 0x10) &&
  decide (p.funcOf .glue ≠ p.funcOf .usb) && decide (p.funcOf .glue ≠ p.funcOf .dma) &&
  decide (p.funcOf .usb ≠ p.funcOf .dma) &&
  (p.regs .A).ok p.subfuncCount && (p.regs .B).ok p.subfuncCount

/-- The REF glue parameters, the same for both variants (R8). -/
def GlueRegs.ref : GlueRegs where
  glueSize := 0x1000
  volatileRegs := [0x704]
  ackCode := fun | .glue => 1 | .usb => 2 | .dma => 3
  ackWr := 0x700
  ackRd := 0x704
  glueEn := 0x000
  glueEnMask := 0x1
  maskReg f := BitVec.ofNat 32 (0x100 + 4 * f.val)
  addrReg f := BitVec.ofNat 32 (0x200 + 4 * f.val)
  dataHiReg f := BitVec.ofNat 32 (0x300 + 4 * f.val)
  dataLoReg f s := BitVec.ofNat 32 <|
    if f.val < 4 then 0x400 + 4 * f.val
    else if f.val = 4 then 0x480 + 4 * s.val
    else 0x500 + 0x80 * (f.val - 5) + 4 * s.val
  dataHiVal d := (d.extractLsb' 16 16).setWidth 32
  dataLoVal d := (d.extractLsb' 0 16).setWidth 32

/-- The reference configuration REF (R8, D36), with strap `v` and zero launch contents (95_test_vectors.md). Nothing in
the machine rests on it: it is what `Config.params` falls back to, and what the tests run on. -/
def Params.ref (v : Variant) : Params where
  strap := v
  winIndex := fun | .A => 0 | .B => 1
  subfuncCount f := [1, 1, 1, 1, 31, 2, 1, 3][f]
  primary := 4
  funcOf := fun | .glue => 4 | .usb => 7 | .dma => 5
  msiAddr := 0xFEE00000
  usbShift := 0x10
  platformId := 0
  numReq := 2
  broadcastDemux := .skip
  glue0 _ := 0
  regs _ := GlueRegs.ref

/-- Any parameters at all: no body, so no proof can see them (R8, log 1). -/
opaque Config.rawParams : Params

/-- The configuration of the machine: an arbitrary well-formed one. "A configuration in which one is not is ill-formed,
and a model refuses it" (R63): an ill-formed draw of `rawParams` is not run. -/
def Config.params : Params :=
  if Config.rawParams.ok then Config.rawParams else Params.ref .A

/-- The schedule and the environment's inputs (R24, R231, log 2): whose step follows step number `n`. -/
opaque Config.nextTurn : Nat → Turn

/-- `draw ack_value` of step `n`: what a read of a volatile offset returns (R23, R64). -/
opaque Config.ackValue : Nat → Word

/-- `draw remap_present` of step `n` (R23). -/
opaque Config.remapPresent : Nat → Bool

/-- `draw create_ok(f)` of step `n` (R23). -/
opaque Config.createOk : Nat → FnId → Bool

/-- `draw dispatch_order`, and the choice among `EPEND_H`, of step `n` (R23, R197, R199). -/
opaque Config.pick : Nat → Nat

/-- What `FREE` at step `n` leaves in `LINE[i]` (R150 "becomes unspecified"). -/
opaque Config.freeLine : Nat → Line

/-- What `GDEINIT` at step `n` leaves in `VARIANT_LATCH` (R211 "unspecified"). -/
opaque Config.freeVariant : Nat → Variant

/-- What `GDEINIT` at step `n` leaves in `GLUE_WIN` (R211 "unspecified"). -/
opaque Config.freeWin : Nat → Fin 3

/-- Everything outside the block that a step consults: the parameters and the free values. The meanings take it as an
argument ("A model takes each one as an argument", R8); the machine runs them on `Config.env`. -/
structure Env where
  par : Params
  nextTurn : Nat → Turn
  ackValue : Nat → Word
  remapPresent : Nat → Bool
  createOk : Nat → FnId → Bool
  pick : Nat → Nat
  freeLine : Nat → Line
  freeVariant : Nat → Variant
  freeWin : Nat → Fin 3

/-- The machine's own environment: the arbitrary configuration and the free values. -/
def Config.env : Env where
  par := Config.params
  nextTurn := Config.nextTurn
  ackValue := Config.ackValue
  remapPresent := Config.remapPresent
  createOk := Config.createOk
  pick := Config.pick
  freeLine := Config.freeLine
  freeVariant := Config.freeVariant
  freeWin := Config.freeWin

end Sys2Proof
end

