-- ==== Sys2Proof/Syntax.lean ====
section
/-! DEFINITION. The commands of R83, the pseudo-instruction of R89 and the edge event of R87: one constructor for each
row of spec/opcode_table.json. -/

namespace Sys2Proof

/-- The instructions. `fn` and `sf` are the header's FN and SF fields (R81); the other operands are operand words (R82). -/
inductive Instr where
  /-- RD32 off (R101). -/
  | rd32 (off : Word)
  /-- WR32 off, val (R102). -/
  | wr32 (off val : Word)
  /-- SETM off, mask (R103). -/
  | setm (off mask : Word)
  /-- CLRM off, mask (R104). -/
  | clrm (off mask : Word)
  /-- MASKSET off, clr, set (R105). -/
  | maskset (off clr set : Word)
  /-- ALLOC f, s, virq (R125). -/
  | alloc (fn sf : BitVec 8) (virq : Word)
  /-- COMPOSE virq (R130, R131). -/
  | compose (virq : Word)
  /-- WRMSG virq, addr, data (R135). -/
  | wrmsg (virq addr data : Word)
  /-- MASK virq (R140). -/
  | mask (virq : Word)
  /-- UNMASK virq (R141). -/
  | unmask (virq : Word)
  /-- FREE virq (R150). -/
  | free (virq : Word)
  /-- ASSIGN f, n, g (R160). -/
  | assign (fn : BitVec 8) (n g : Word)
  /-- FREEI f (R161). -/
  | freei (fn : BitVec 8)
  /-- DBUILD f (R173). -/
  | dbuild (fn : BitVec 8)
  /-- DBUILDALL (R174). -/
  | dbuildall
  /-- DTEAR (R175). -/
  | dtear
  /-- DLOOKUP f, s (R176). -/
  | dlookup (fn sf : BitVec 8)
  /-- GINIT (R210). -/
  | ginit
  /-- GDEINIT (R211). -/
  | gdeinit
  /-- SUSPEND (R212). -/
  | suspend
  /-- RESUME (R213). -/
  | resume
  /-- ALLOCB f, virq, the same command as ALLOC f, 31, virq (R89). -/
  | allocb (fn : BitVec 8) (virq : Word)
  /-- EDGE h, the event word `h` on `EI` (R87, R192): not a command. -/
  | edge (h : Word)
deriving DecidableEq, Repr

end Sys2Proof
end

