-- ==== Sys2Proof/WellFormed.lean ====
section
/-! DEFINITION. Which terms of `Instr` are the one spelling of the words they stand for. Nothing in `exec` asks for it:
a term that is not well formed runs too. -/

namespace Sys2Proof

/-- The event format's zero bits, mask 0xFFFF00E0 (R87). -/
def eventZeroBits : Word := 0xFFFF00E0

/-- Every operand has exactly its field's width, so only two checks remain: the header of ALLOC f, 31, virq is spelled
ALLOCB (R89, log 11), and an event word has its format's zero bits zero (R87). -/
def Instr.wellFormed : Instr → Bool
  | .alloc _ sf _ => decide (sf ≠ 0x1F)
  | .edge h => decide (h &&& eventZeroBits = 0)
  | .rd32 _ | .wr32 _ _ | .setm _ _ | .clrm _ _ | .maskset _ _ _ | .compose _ | .wrmsg _ _ _ | .mask _ | .unmask _
  | .free _ | .assign _ _ _ | .freei _ | .dbuild _ | .dbuildall | .dtear | .dlookup _ _ | .ginit | .gdeinit | .suspend
  | .resume | .allocb _ _ => true

end Sys2Proof
end

