-- ==== Sys2Proof/Decode.lean ====
section
/-! DEFINITION. The decoder of the words on a command port (R80–R90), total on any list of words, and the encoder after
it. -/

namespace Sys2Proof

/-- What the block makes of the words on a port. -/
inductive Decoded where
  /-- A whole command, and the words after it. -/
  | command (i : Instr) (rest : List Word)
  /-- An illegal header (R84), and the words after it: no operand word is taken. -/
  | illegal (header : Word) (rest : List Word)
  /-- No header yet, or a legal header whose operand words have not all come (R80). -/
  | short
deriving DecidableEq, Repr

/-- Header bits 31:24, the opcode (R81). -/
def headerOpc (h : Word) : BitVec 8 := h.extractLsb' 24 8
/-- Header bits 23:16, FN (R81). -/
def headerFn (h : Word) : BitVec 8 := h.extractLsb' 16 8
/-- Header bits 15:8, SF (R81). -/
def headerSf (h : Word) : BitVec 8 := h.extractLsb' 8 8
/-- Header bits 7:0, reserved (R81). -/
def headerRsv (h : Word) : BitVec 8 := h.extractLsb' 0 8

/-- The operand count of an opcode, `none` for one that R83 does not list. -/
def operandCount (opc : BitVec 8) : Option Nat :=
  match opc.toNat with
  | 0x01 => some 1 | 0x02 => some 2 | 0x03 => some 2 | 0x04 => some 2 | 0x05 => some 3
  | 0x10 => some 1 | 0x11 => some 1 | 0x12 => some 3 | 0x13 => some 1 | 0x14 => some 1 | 0x15 => some 1
  | 0x16 => some 2 | 0x17 => some 0
  | 0x20 => some 0 | 0x21 => some 0 | 0x22 => some 0 | 0x23 => some 0
  | 0x30 => some 0 | 0x31 => some 0 | 0x32 => some 0 | 0x33 => some 0
  | _ => none

/-- The opcodes whose FN field carries an operand (R83). -/
def usesFn (opc : BitVec 8) : Bool :=
  match opc.toNat with
  | 0x10 | 0x16 | 0x17 | 0x20 | 0x23 => true
  | _ => false

/-- The opcodes whose SF field carries an operand (R83). -/
def usesSf (opc : BitVec 8) : Bool :=
  match opc.toNat with
  | 0x10 | 0x23 => true
  | _ => false

/-- A header is legal iff none of the cases (a) to (d) of R84 holds. -/
def headerLegal (h : Word) : Bool :=
  (operandCount (headerOpc h)).isSome && decide (headerRsv h = 0) &&
  (usesFn (headerOpc h) || decide (headerFn h = 0)) &&
  (usesSf (headerOpc h) || decide (headerSf h = 0))

/-- The length in words of the command a header begins; an illegal header has length 1 (R90). -/
def commandLength (h : Word) : Nat :=
  if headerLegal h then 1 + (operandCount (headerOpc h)).getD 0 else 1

/-- A command with one operand word. -/
def take1 (k : Word → Instr) : List Word → Decoded
  | a :: rest => .command (k a) rest
  | [] => .short

/-- A command with two operand words. -/
def take2 (k : Word → Word → Instr) : List Word → Decoded
  | a :: b :: rest => .command (k a b) rest
  | _ => .short

/-- A command with three operand words. -/
def take3 (k : Word → Word → Word → Instr) : List Word → Decoded
  | a :: b :: c :: rest => .command (k a b c) rest
  | _ => .short

/-- The command a legal header begins, by its opcode (R83); the header of ALLOC f, 31 is spelled ALLOCB (R89). -/
def decodeLegal (h : Word) (ops : List Word) : Decoded :=
  let fn := headerFn h
  let sf := headerSf h
  match (headerOpc h).toNat with
  | 0x01 => take1 .rd32 ops
  | 0x02 => take2 .wr32 ops
  | 0x03 => take2 .setm ops
  | 0x04 => take2 .clrm ops
  | 0x05 => take3 .maskset ops
  | 0x10 => if sf = 0x1F then take1 (.allocb fn) ops else take1 (.alloc fn sf) ops
  | 0x11 => take1 .compose ops
  | 0x12 => take3 .wrmsg ops
  | 0x13 => take1 .mask ops
  | 0x14 => take1 .unmask ops
  | 0x15 => take1 .free ops
  | 0x16 => take2 (.assign fn) ops
  | 0x17 => .command (.freei fn) ops
  | 0x20 => .command (.dbuild fn) ops
  | 0x21 => .command .dbuildall ops
  | 0x22 => .command .dtear ops
  | 0x23 => .command (.dlookup fn sf) ops
  | 0x30 => .command .ginit ops
  | 0x31 => .command .gdeinit ops
  | 0x32 => .command .suspend ops
  | 0x33 => .command .resume ops
  | _ => .illegal h ops

/-- The decoder of a command port: legality first, before any operand word is read (R84, R90). -/
def decode : List Word → Decoded
  | [] => .short
  | h :: ops => if headerLegal h then decodeLegal h ops else .illegal h ops

/-- The words of an instruction numbered as the opcode table numbers bits: word `k` is bits 32k+31..32k, and every bit
from `nbits` on is 0; four words, the longest command (R80). -/
def tableWords (nbits w : Nat) : List Word :=
  (List.range 4).map fun k => BitVec.ofNat 32 ((w % 2 ^ nbits) >>> (32 * k))

/-- What the decoder reads from a word of the opcode table: the command of a command port, else the event of `EI` if the
word has the event format of R87 (log 10). -/
def decodeTableWord (nbits w : Nat) : Option Instr :=
  match decode (tableWords nbits w) with
  | .command i _ => some i
  | _ =>
    let h := BitVec.ofNat 32 (w % 2 ^ nbits)
    if h &&& eventZeroBits = 0 then some (.edge h) else none

/-- The header `(OPC << 24) | (FN << 16) | (SF << 8)` (R88). -/
def header (opc fn sf : BitVec 8) : Word := opc ++ fn ++ sf ++ (0 : BitVec 8)

/-- The opcode of an instruction (R83); an event has none (R87). -/
def opcodeOf : Instr → BitVec 8
  | .rd32 _ => 0x01
  | .wr32 _ _ => 0x02
  | .setm _ _ => 0x03
  | .clrm _ _ => 0x04
  | .maskset _ _ _ => 0x05
  | .alloc _ _ _ => 0x10
  | .allocb _ _ => 0x10
  | .compose _ => 0x11
  | .wrmsg _ _ _ => 0x12
  | .mask _ => 0x13
  | .unmask _ => 0x14
  | .free _ => 0x15
  | .assign _ _ _ => 0x16
  | .freei _ => 0x17
  | .dbuild _ => 0x20
  | .dbuildall => 0x21
  | .dtear => 0x22
  | .dlookup _ _ => 0x23
  | .ginit => 0x30
  | .gdeinit => 0x31
  | .suspend => 0x32
  | .resume => 0x33
  | .edge _ => 0x00

/-- The words of an instruction (R83, R88, R89); of an event, its event word (R87). -/
def encode : Instr → List Word
  | .rd32 off => [header 0x01 0 0, off]
  | .wr32 off val => [header 0x02 0 0, off, val]
  | .setm off mask => [header 0x03 0 0, off, mask]
  | .clrm off mask => [header 0x04 0 0, off, mask]
  | .maskset off clr set => [header 0x05 0 0, off, clr, set]
  | .alloc fn sf virq => [header 0x10 fn sf, virq]
  | .allocb fn virq => [header 0x10 fn 0x1F, virq]
  | .compose virq => [header 0x11 0 0, virq]
  | .wrmsg virq addr data => [header 0x12 0 0, virq, addr, data]
  | .mask virq => [header 0x13 0 0, virq]
  | .unmask virq => [header 0x14 0 0, virq]
  | .free virq => [header 0x15 0 0, virq]
  | .assign fn n g => [header 0x16 fn 0, n, g]
  | .freei fn => [header 0x17 fn 0]
  | .dbuild fn => [header 0x20 fn 0]
  | .dbuildall => [header 0x21 0 0]
  | .dtear => [header 0x22 0 0]
  | .dlookup fn sf => [header 0x23 fn sf]
  | .ginit => [header 0x30 0 0]
  | .gdeinit => [header 0x31 0 0]
  | .suspend => [header 0x32 0 0]
  | .resume => [header 0x33 0 0]
  | .edge h => [h]

end Sys2Proof
end

