-- ==== Sys2Proof/Machine/Operands.lean ====
section
/-! DEFINITION. The operand forms and the pure functions of R14: field checks, hwirq encoding, mask bits, the demux
groups, and the info words of R224. -/

namespace Sys2Proof.Machine

/-- FN as a function id; `none` when FN > 7 (R85). -/
def fnId? (fn : BitVec 8) : Option FnId :=
  if h : fn.toNat < 8 then some ⟨fn.toNat, h⟩ else none

/-- SF as a subfunction id; `none` when SF > 31 (R85). -/
def sfId? (sf : BitVec 8) : Option SubId :=
  if h : sf.toNat < 32 then some ⟨sf.toNat, h⟩ else none

/-- `enc_hwirq(f, s)` (R120). -/
def encHwirq (f : FnId) (s : SubId) : Word :=
  BitVec.ofNat 32 f.val <<< 8 ||| BitVec.ofNat 32 s.val

/-- `dec_hwirq(h)`: the function and subfunction of a valid hwirq, `none` for an invalid one (R121). The line is the
broadcast line when the subfunction is 31. -/
def decHwirq (h : Word) : Option (FnId × SubId) :=
  if h.extractLsb' 16 16 = 0 ∧ h.extractLsb' 5 3 = 0 then
    match fnId? (h.extractLsb' 8 8) with
    | some f => some (f, (h.extractLsb' 0 5).toFin)
    | none => none
  else none

/-- `maskbits(f, s)` for a function of `n` subfunctions (R122). -/
def maskBits (n : Nat) (s : SubId) : Word :=
  if s = bcast then (1#32 <<< n) - 1 else 1#32 <<< s.val

/-- `compute_pending(a, m, sh)` (R190). -/
def computePending (a m : Word) (sh : Nat) : Word := m &&& ~~~(a >>> sh)

/-- `DOM_BASE[f]`, hard-wired to `f << 8` (R33, R172). -/
def domBase (f : FnId) : Word := BitVec.ofNat 32 f.val <<< 8

/-- `GROUP_MASK(g)` (R191). -/
def groupMask : Group → Word
  | .glue => 0xFFFFFFFF
  | .usb => 0x00000007
  | .dma => 0x00000003

/-- `GROUP_SHIFT(g)` (R191); `USB_SHIFT` is 0x10 in every accepted configuration (`Params.ok`, log 35). -/
def groupShift (p : Params) : Group → Nat
  | .glue => 0
  | .usb => p.usbShift.val
  | .dma => 0

/-- `GROUP_BASE(g)`: the group function's domain base (R191). -/
def groupBase (p : Params) (g : Group) : Word := domBase (p.funcOf g)

/-- The group whose function `f` is, if any (R193). -/
def groupOf (p : Params) (f : FnId) : Option Group :=
  if f = p.funcOf .glue then some .glue
  else if f = p.funcOf .usb then some .usb
  else if f = p.funcOf .dma then some .dma
  else none

/-- The positions of the set bits of a word, rising. -/
def setBits (w : Word) : List Nat := (List.range 32).filter fun i => w.getLsbD i

/-- The info word `(f << 24) | x[23:0]` of BadArgument and ModeViolation (R224). -/
def argInfo (fn : BitVec 8) (x : Word) : Word := fn ++ x.extractLsb' 0 24

/-- The info word `(OPC << 24) | f` of ControlState (R224). -/
def controlInfo (opc : BitVec 8) (f : FnId) : Word :=
  opc.setWidth 32 <<< 24 ||| BitVec.ofNat 32 f.val

/-- The info word `zext_32(OPC)` of NotInitialized (R224). -/
def opcInfo (opc : BitVec 8) : Word := opc.setWidth 32

/-- The value one demux group holds. -/
def PerGroup.get {α : Type} (x : PerGroup α) : Group → α
  | .glue => x.glue
  | .usb => x.usb
  | .dma => x.dma

/-- The same values but for one group's. -/
def PerGroup.set {α : Type} (x : PerGroup α) (g : Group) (v : α) : PerGroup α :=
  match g with
  | .glue => { x with glue := v }
  | .usb => { x with usb := v }
  | .dma => { x with dma := v }

/-- The word `w` added to a set held as a rising list (R36). -/
def setInsert (w : Word) : List Word → List Word
  | [] => [w]
  | x :: xs => if w < x then w :: x :: xs else if w = x then x :: xs else x :: setInsert w xs

/-- The word `w` taken out of a set (R199). -/
def setErase (w : Word) (xs : List Word) : List Word := xs.filter fun x => decide (x ≠ w)

end Sys2Proof.Machine
end

