-- ==== Sys2Proof/Machine/State.lean ====
section
/-! DEFINITION. The state of the block, of the glue window and of the ports, as plain data, and the state after reset. -/

namespace Sys2Proof.Machine

/-- Why the machine stops. The faults of R224 are not here: they are recorded and the block goes on (R226). -/
inductive Fault where
  /-- Raised by the environment's step when it removes the instance: "Destroyed at remove" ends the model, no command or
  event is accepted after it (R250). Safe: the machine stops and nothing is proved about a step after it. -/
  | removed
deriving DecidableEq, Repr

/-- Why an instruction has no meaning. -/
inductive Refusal where
  /-- Raised by an arm of `exec` whose instruction is not modelled yet; no arm is. Safe. -/
  | notModelled (mnemonic : String)
deriving DecidableEq, Repr

/-- The state. Every field is plain data; INVENTORY.md names the rule of each. -/
structure State where
  /-- `GLUE_INIT` (R26). -/
  glueInit : Bool
  /-- `VARIANT_LATCH` (R27). -/
  variantLatch : Variant
  /-- `GLUE_WIN` (R28). -/
  glueWin : Fin 3
  /-- `SLOT[0..99]`, `none` is `EMPTY` (R29). -/
  slots : Vector (Option Word) 100
  /-- `LINE[0..99]` (R30). -/
  lines : Vector Line 100
  /-- `DOM[0..7]` (R33). -/
  dom : Vector DomStatus 8
  /-- `DOM_PARENT[0..7]` (R33). -/
  domParent : Vector Parent 8
  /-- `MODE[0..7]` (R34). -/
  mode : Vector GrantMode 8
  /-- `GRANT[0..7]` (R34). -/
  grant : Vector Word 8
  /-- `ACK_LOCK` (R35). -/
  ackLock : AckLock
  /-- `EPEND_G[g]` (R36). -/
  ependG : PerGroup Bool
  /-- `EPEND_H`, a set, held as a strictly rising list (R36). -/
  ependH : List Word
  /-- Each demux agent's phase and `PEND_LEFT` (R37). -/
  dmx : PerGroup Dmx
  /-- `CP[r]` and `REQ[r]` for r in 0..NUM_REQ−1 (R22, R38); `NUM_REQ` is the parameter `Params.numReq`, and no step changes
  the number of ports (log 8). -/
  ports : List Port
  /-- `FLT_CODE` (R39). -/
  fltCode : BitVec 8
  /-- `FLT_INFO` (R39). -/
  fltInfo : Word
  /-- `FLT_COUNT` (R39). -/
  fltCount : Word
  /-- `DIAG_FALLBACK` (R40). -/
  diagFallback : Word
  /-- `DIAG_SKIP` (R40). -/
  diagSkip : Word
  /-- `DIAG_SPURIOUS` (R40). -/
  diagSpurious : Word
  /-- `DLOG` (R41). -/
  dlog : List DispatchRec
  /-- The glue window's bytes that differ from the launch contents (R64, R65). -/
  mem : List Host.Cell
  /-- The model's record of the accesses on `GB` in their global order (R69, log 15). -/
  gbLog : List GbAccess
  /-- The model's record of the requests on `PD` (R22, log 15). -/
  pdLog : List PdRequest
  /-- The model's schedule: whose step is next (R24, log 2). -/
  turn : Turn
  /-- The model's step number, the argument of every free value (log 3). -/
  tick : Nat
deriving DecidableEq, Repr

/-- A line record of zeros: what `LINE[i]` holds after reset, where the spec says "unspecified" (log 5). -/
def Line.zero : Line := { f := 0, s := 0, virq := 0, mbits := 0, st := .unconfigured, busy := false }

/-- An idle demux agent (R37). -/
def Dmx.rest : Dmx := { phase := .idle, pendLeft := 0 }

/-- A port with nothing sent, nothing in progress and nothing answered. -/
def Port.empty : Port := { words := [], work := none, responses := [] }

/-- The command ports after reset, `NUM_REQ` of them (R8, R38); `NUM_REQ` is at least 1, so port 0 is there (log 8). -/
def Port.atReset : List Port := Port.empty :: List.replicate (Config.params.numReq - 1) Port.empty

/-- The state right after reset (R43). The values of VARIANT_LATCH, GLUE_WIN and LINE, which R43 leaves unspecified, are
log 5; `turn` and `tick` are log 30. -/
def State.reset : State where
  glueInit := false
  variantLatch := .A
  glueWin := 0
  slots := Vector.replicate 100 none
  lines := Vector.replicate 100 Line.zero
  dom := Vector.replicate 8 .unbuilt
  domParent := Vector.replicate 8 .none
  mode := Vector.replicate 8 .none
  grant := Vector.replicate 8 0
  ackLock := .free
  ependG := { glue := false, usb := false, dma := false }
  ependH := []
  dmx := { glue := Dmx.rest, usb := Dmx.rest, dma := Dmx.rest }
  ports := Port.atReset
  fltCode := 0
  fltInfo := 0
  fltCount := 0
  diagFallback := 0
  diagSkip := 0
  diagSpurious := 0
  dlog := []
  mem := []
  gbLog := []
  pdLog := []
  turn := .env .quiet
  tick := 0

end Sys2Proof.Machine
end

