-- ==== Sys2Proof/Machine/Ops.lean ====
section
/-! DEFINITION. The named operations over the state: the glue window's bytes and 32-bit accesses, ports and responses,
raising a fault (there is no return from one, R228), the allocation table, the reverse lookup, and reset. -/

namespace Sys2Proof.Machine

/-! ## The glue window -/

/-- One byte at an offset: the listed one, else the launch contents `d` (R64, R65). -/
def memByte (d : Nat → Byte) (m : List Host.Cell) (a : Nat) : Byte :=
  match m with
  | [] => d a
  | c :: cs => if c.1 = a then c.2 else memByte d cs a

/-- List the byte `b` at `a`, before the first larger offset. -/
def memInsert (a : Nat) (b : Byte) : List Host.Cell → List Host.Cell
  | [] => [(a, b)]
  | c :: cs => if a < c.1 then (a, b) :: c :: cs else if a = c.1 then (a, b) :: cs else c :: memInsert a b cs

/-- Write one byte; a byte equal to the launch contents is not listed, so that equal windows are equal lists. -/
def memPut (d : Nat → Byte) (m : List Host.Cell) (a : Nat) (b : Byte) : List Host.Cell :=
  if b = d a then m.filter fun c => decide (c.1 ≠ a) else memInsert a b m

/-- The canonical form against launch contents `d`: offsets strictly rising, no byte that an unlisted one reads as. -/
def memWf (d : Nat → Byte) (m : List Host.Cell) : Bool :=
  match m with
  | [] => true
  | c :: cs => cs.all (fun c' => decide (c.1 < c'.1)) && decide (c.2 ≠ d c.1) && memWf d cs

/-- The canonical form of the machine's glue window. -/
def Memory.wf (m : List Host.Cell) : Bool := memWf Config.params.glue0 m

/-- The 32-bit register at an offset, little-endian (R66). -/
def memWord (d : Nat → Byte) (m : List Host.Cell) (off : Word) : Word :=
  memByte d m (off.toNat + 3) ++ memByte d m (off.toNat + 2) ++ memByte d m (off.toNat + 1) ++ memByte d m off.toNat

/-- Write the 32-bit register at an offset, little-endian (R66). -/
def memPutWord (d : Nat → Byte) (m : List Host.Cell) (off v : Word) : List Host.Cell :=
  memPut d
    (memPut d (memPut d (memPut d m off.toNat (v.extractLsb' 0 8)) (off.toNat + 1) (v.extractLsb' 8 8))
      (off.toNat + 2) (v.extractLsb' 16 8))
    (off.toNat + 3) (v.extractLsb' 24 8)

/-- The register parameters in force: those of `VARIANT_LATCH` (R27). -/
def State.regs (e : Env) (s : State) : GlueRegs := e.par.regs s.variantLatch

/-- The value `MemRead(off, 4)` returns: a draw at a volatile offset, else what the register holds (R64). -/
def State.gbValue (e : Env) (s : State) (off : Word) : Word :=
  if (s.regs e).volatileRegs.contains off then e.ackValue s.tick else memWord e.par.glue0 s.mem off

/-- `MemRead(off, 4)` as an access on `GB` (R11); its value is `gbValue`. -/
def State.gbRead (e : Env) (s : State) (off : Word) : State :=
  { s with gbLog := s.gbLog ++ [{ agent := s.turn, op := .read off (s.gbValue e off) }] }

/-- `MemWrite(off, 4, v)` (R11, R64). -/
def State.gbWrite (e : Env) (s : State) (off v : Word) : State :=
  { s with
    mem := memPutWord e.par.glue0 s.mem off v
    gbLog := s.gbLog ++ [{ agent := s.turn, op := .write off v }] }

/-! ## Ports, responses and faults -/

/-- The requester whose step this is. -/
def State.issuer (s : State) : Nat :=
  match s.turn with
  | .req r => r
  | _ => 0

/-- Change port `r`; a port that does not exist changes nothing. -/
def State.onPort (s : State) (r : Nat) (g : Port → Port) : State := { s with ports := s.ports.modify r g }

/-- End the command in progress with a response; its requester becomes Idle (R12, R86). -/
def State.respond (s : State) (st : Status) (results : List Word) : State :=
  s.onPort s.issuer fun p => { p with work := none, responses := p.responses ++ [{ status := st, results := results }] }

/-- Stop between two labelled steps, with the locals the next one needs (R13, R38). -/
def State.hold (s : State) (w : Work) : State := s.onPort s.issuer fun p => { p with work := some w }

/-- `raise F(info)`: record the first fault, count it, respond with its code (R226). -/
def State.raise (s : State) (f : Status) (info : Word) : State :=
  State.respond
    { s with
      fltCode := if s.fltCode = 0 then f.code else s.fltCode
      fltInfo := if s.fltCode = 0 then info else s.fltInfo
      fltCount := satSucc s.fltCount }
    f []

/-! ## The allocation table and the domains -/

/-- `SLOT[i] ≠ EMPTY`. -/
def State.liveSlot (s : State) (i : SlotIx) : Bool := s.slots[i].isSome

/-- Membership in `live(f)` (R124). -/
def State.liveOf (s : State) (f : FnId) (i : SlotIx) : Bool := s.liveSlot i && decide (s.lines[i].f = f)

/-- `find_line(virq)` (R124). -/
def State.findLine (s : State) (virq : Word) : Option SlotIx :=
  (List.finRange 100).find? fun i => decide (s.slots[i] = some virq)

/-- The lowest empty slot (R125). -/
def State.firstEmpty (s : State) : Option SlotIx :=
  (List.finRange 100).find? fun i => !s.liveSlot i

/-- Some line of function `f` is live. -/
def State.anyLive (s : State) (f : FnId) : Bool := (List.finRange 100).any fun i => s.liveOf f i

/-- A live line of `f` that ALLOC of (f, sub) would clash with (R125). -/
def State.clash (s : State) (f : FnId) (sub : SubId) : Bool :=
  (List.finRange 100).any fun j =>
    s.liveOf f j && (decide (s.lines[j].s = sub) || decide (s.lines[j].s = bcast) || decide (sub = bcast))

/-- `MODE[f]` does not admit a line with this subfunction (R125). -/
def modeForbids : GrantMode → SubId → Bool
  | .none, _ => false
  | .perSub n, sub => decide (sub = bcast) || decide (n.val ≤ sub.val)
  | .broadcast, sub => decide (sub ≠ bcast)

/-- `lookup(f, h)`, the domain's reverse lookup (R170). -/
def State.lookup (s : State) (f : FnId) (h : Word) : Option Word :=
  if s.dom[f] = .built then
    ((List.finRange 100).find? fun i =>
      s.liveOf f i && decide (encHwirq s.lines[i].f s.lines[i].s = h)).map fun i => s.lines[i].virq
  else none

/-- The lowest function whose domain has left Unbuilt (R174, R211). -/
def State.firstBegun (s : State) : Option FnId := (List.finRange 8).find? fun f => decide (s.dom[f] ≠ .unbuilt)

/-- Set the state and the busy bit of a line record (R31, R30). -/
def State.setLine (s : State) (i : SlotIx) (st : LineState) (busy : Bool) : State :=
  { s with lines := s.lines.set i { s.lines[i] with st := st, busy := busy } }

/-- Emit `Dispatch(virq, hwirq)` (R12, R41). -/
def State.emit (s : State) (virq hwirq : Word) : State := { s with dlog := s.dlog ++ [{ virq := virq, hwirq := hwirq }] }

/-! ## Reset -/

/-- The creation of the instance, one atomic event: every piece of block state as R43, every command and demux run
abandoned, no response, the glue window untouched (R250). The words a requester has sent, the responses it has had, and
the model's own records stay (log 17). -/
def State.create (s : State) : State :=
  { State.reset with
    ports := s.ports.map fun p => { p with work := none }
    mem := s.mem
    gbLog := s.gbLog
    pdLog := s.pdLog
    turn := s.turn
    tick := s.tick }

end Sys2Proof.Machine
end

