-- ==== Sys2Proof/Machine/Demux.lean ====
section
/-! DEFINITION. The edge event and the edge demultiplexer: EDGE, the steps of the agents `DMX[g]` and `DEF`
(R190–R203). -/

namespace Sys2Proof.Machine

/-- `route(h, f)` (R193): on an initialised variant B a group function's event sets the group's pending bit, every other
event joins the default set; both coalesce. -/
def routeEdge (e : Env) (h : Word) (f : FnId) (s : State) : State :=
  if s.glueInit = true ∧ s.variantLatch = .B then
    match groupOf e.par f with
    | some g => { s with ependG := s.ependG.set g true }
    | none => { s with ependH := setInsert h s.ependH }
  else { s with ependH := setInsert h s.ependH }

/-- Accept an event word, one atomic step (R192). -/
def acceptEdge (e : Env) (h : Word) (s : State) : State :=
  match decHwirq h with
  | none => { s with diagSpurious := s.diagSpurious + 1 }
  | some d => routeEdge e h d.1 s

/-- The meaning of an EDGE event (R192). It is no command: there is no response. -/
def execEdge (h : Word) (s : State) : Host.Outcome State Fault Refusal := .next (acceptEdge Config.env h s)

/-- Set `DMX[g]`'s local state. -/
def State.setDmx (s : State) (g : Group) (d : Dmx) : State := { s with dmx := s.dmx.set g d }

/-- Step T1, enabled when the group's edge is pending and the lock is free; a held agent does not move (R194). -/
def demuxT1 (g : Group) (s : State) : State :=
  if s.ependG.get g = true ∧ s.ackLock = .free then
    State.setDmx { s with ependG := s.ependG.set g false, ackLock := .held g } g
      { s.dmx.get g with phase := .locked .t2 }
  else s

/-- Step T2: write the group's code to the ack-write register (R195). -/
def demuxT2 (e : Env) (g : Group) (s : State) : State :=
  (s.gbWrite e (s.regs e).ackWr ((s.regs e).ackCode g)).setDmx g { s.dmx.get g with phase := .locked .t3 }

/-- Step T3: read the ack-read register (R195). -/
def demuxT3 (e : Env) (g : Group) (s : State) : State :=
  (s.gbRead e (s.regs e).ackRd).setDmx g
    { s.dmx.get g with phase := .locked (.t4 (s.gbValue e (s.regs e).ackRd)) }

/-- Step T4: release the lock and compute the pending bits (R196). -/
def demuxT4 (e : Env) (g : Group) (a : Word) (s : State) : State :=
  let pend := computePending a (groupMask g) (groupShift e.par g)
  State.setDmx { s with ackLock := .free } g
    { phase := if pend = 0 then .idle else .dispatching, pendLeft := pend }

/-- Handle pending bit `i` of a group: dispatch the line of its hwirq, or with `route` the broadcast line, or skip it
(R197, R201). -/
def demuxBit (e : Env) (g : Group) (i : Nat) (s : State) : State :=
  let f := e.par.funcOf g
  let h := groupBase e.par g ||| BitVec.ofNat 32 i
  match s.lookup f h with
  | some v => s.emit v h
  | none =>
    match e.par.broadcastDemux, s.lookup f (encHwirq f bcast) with
    | .route, some vb =>
      if i < e.par.subfuncCount f then s.emit vb (encHwirq f bcast) else { s with diagSkip := s.diagSkip + 1 }
    | _, _ => { s with diagSkip := s.diagSkip + 1 }

/-- The pending bit a run handles next: any set bit, by the draw (R197). -/
def chooseBit (e : Env) (w : Word) (n : Nat) : Option Nat := (setBits w)[e.pick n % (setBits w).length]?

/-- Step T5: handle one pending bit; the run ends with the last (R197, R198). -/
def demuxT5 (e : Env) (g : Group) (s : State) : State :=
  match chooseBit e (s.dmx.get g).pendLeft s.tick with
  | none => s.setDmx g { s.dmx.get g with phase := .idle }
  | some i =>
    let left := (s.dmx.get g).pendLeft &&& ~~~(1#32 <<< i)
    (demuxBit e g i s).setDmx g { phase := if left = 0 then .idle else .dispatching, pendLeft := left }

/-- One step of `DMX[g]`, by its phase (R194–R198). -/
def stepDemux (e : Env) (g : Group) (s : State) : State :=
  match (s.dmx.get g).phase with
  | .idle => demuxT1 g s
  | .locked .t2 => demuxT2 e g s
  | .locked .t3 => demuxT3 e g s
  | .locked (.t4 a) => demuxT4 e g a s
  | .dispatching => demuxT5 e g s

/-- The pending hwirq the default agent takes: any of the set, by the draw (R199). -/
def chooseHwirq (e : Env) (hs : List Word) (n : Nat) : Option Word := hs[e.pick n % hs.length]?

/-- The function in bits 15:8 of a hwirq, for the default lookup (R199). -/
def lookupHwirq (s : State) (h : Word) : Option Word :=
  match fnId? (h.extractLsb' 8 8) with
  | some f => s.lookup f h
  | none => none

/-- Step D1 of `DEF`, enabled when the default set is not empty (R199). -/
def stepDefault (e : Env) (s : State) : State :=
  match chooseHwirq e s.ependH s.tick with
  | none => s
  | some h =>
    let t := { s with ependH := setErase h s.ependH }
    match lookupHwirq s h with
    | some v => t.emit v h
    | none => { t with diagSpurious := t.diagSpurious + 1 }

end Sys2Proof.Machine
end

