-- ==== Sys2Proof/Machine/Domain.lean ====
section
/-! DEFINITION. The interrupt domain hierarchy builder: DBUILD, DBUILDALL, DTEAR, DLOOKUP (R170–R178). -/

namespace Sys2Proof.Machine

/-- The parent the primary's domain is chained under: the answer of `PD.remap_lookup` (R171, R173). -/
def drawnParent (e : Env) (s : State) : Parent := if e.remapPresent s.tick then .remap else .vector

/-- Ask `PD.create_domain(p, f, f << 8)`; on success the domain is Built under `p`, on failure its status becomes `bad`
(R173, R174). -/
def buildDomain (e : Env) (p : Parent) (bad : DomStatus) (f : FnId) (s : State) : State :=
  if e.createOk s.tick f then
    { s with
      dom := s.dom.set f .built
      domParent := s.domParent.set f p
      pdLog := s.pdLog ++ [.createDomain p f (domBase f)] }
  else
    { s with
      dom := s.dom.set f bad
      pdLog := s.pdLog ++ [.createDomain p f (domBase f)] }

/-- The request `PD.remap_lookup(PLATFORM_ID)` (R22). -/
def askRemap (e : Env) (s : State) : State := { s with pdLog := s.pdLog ++ [.remapLookup e.par.platformId] }

/-- DBUILD, one step (R173). -/
def buildOne (e : Env) (fn : BitVec 8) (s : State) : State :=
  if s.glueInit = false then s.raise .notInitialized (opcInfo 0x20)
  else
    match fnId? fn with
    | none => s.raise .badArgument (argInfo fn 0)
    | some f =>
      if s.dom[f] ≠ .unbuilt then s.raise .controlState (controlInfo 0x20 f)
      else if f = e.par.primary then
        (buildDomain e (drawnParent e s) .unbuilt f (askRemap e s)).respond
          (if e.createOk s.tick f then .ok else .domainCreationFailed) []
      else if s.dom[e.par.primary] ≠ .built then s.respond .domainOrder []
      else
        (buildDomain e s.domParent[e.par.primary] .failed f s).respond
          (if e.createOk s.tick f then .ok else .secondaryDomainFailed) []

/-- The functions other than the primary, ascending (R174). -/
def secondaries (e : Env) : List FnId := (List.finRange 8).filter fun f => decide (f ≠ e.par.primary)

/-- The bits of the functions in `fs` whose creation fails at step `n` (R174). -/
def failMask (e : Env) (n : Nat) (fs : List FnId) : Word :=
  fs.foldl (fun m f => if e.createOk n f then m else m ||| 1#32 <<< f.val) 0

/-- DBUILDALL, one step: the primary first, then the others ascending (R174). -/
def buildAll (e : Env) (s : State) : State :=
  if s.glueInit = false then s.raise .notInitialized (opcInfo 0x21)
  else
    match s.firstBegun with
    | some f => s.raise .controlState (controlInfo 0x21 f)
    | none =>
      if e.createOk s.tick e.par.primary then
        ((secondaries e).foldl (fun t f => buildDomain e (drawnParent e s) .failed f t)
          (buildDomain e (drawnParent e s) .unbuilt e.par.primary (askRemap e s))).respond
          .ok [failMask e s.tick (secondaries e)]
      else
        (buildDomain e (drawnParent e s) .unbuilt e.par.primary (askRemap e s)).respond .domainCreationFailed []

/-- The order of teardown: 7 down to 0 without the primary, then the primary (R175). -/
def teardownOrder (e : Env) : List FnId := (secondaries e).reverse ++ [e.par.primary]

/-- DTEAR, one step (R175). -/
def tearDown (e : Env) (s : State) : State :=
  if s.glueInit = false then s.raise .notInitialized (opcInfo 0x22)
  else if (List.finRange 100).any (fun i => s.liveSlot i) then s.raise .controlState (controlInfo 0x22 0)
  else
    State.respond
      { s with
        dom := Vector.replicate 8 .unbuilt
        domParent := Vector.replicate 8 .none
        mode := Vector.replicate 8 .none
        grant := Vector.replicate 8 0
        pdLog := s.pdLog ++
          (((teardownOrder e).filter fun f => decide (s.dom[f] = .built)).map .destroyDomain) }
      .ok []

/-- DLOOKUP, one step (R176). -/
def queryLookup (fn sf : BitVec 8) (s : State) : State :=
  if s.glueInit = false then s.raise .notInitialized (opcInfo 0x23)
  else
    match fnId? fn, sfId? sf with
    | some f, some sub =>
      match s.lookup f (encHwirq f sub) with
      | none => s.respond .ok [0, 0]
      | some v => s.respond .ok [1, v]
    | _, _ => s.raise .badArgument (argInfo fn (sf.setWidth 32))

/-- The meaning of DBUILD (R173). -/
def execDbuild (fn : BitVec 8) (s : State) : Host.Outcome State Fault Refusal := .next (buildOne Config.env fn s)

/-- The meaning of DBUILDALL (R174). -/
def execDbuildall (s : State) : Host.Outcome State Fault Refusal := .next (buildAll Config.env s)

/-- The meaning of DTEAR (R175). -/
def execDtear (s : State) : Host.Outcome State Fault Refusal := .next (tearDown Config.env s)

/-- The meaning of DLOOKUP (R176). -/
def execDlookup (fn sf : BitVec 8) (s : State) : Host.Outcome State Fault Refusal := .next (queryLookup fn sf s)

end Sys2Proof.Machine
end

