-- ==== Sys2Proof/Machine/Glue.lean ====
section
/-! DEFINITION. Glue layer control: GINIT, GDEINIT, SUSPEND, RESUME (R210–R213). -/

namespace Sys2Proof.Machine

/-- GINIT, one step (R210). -/
def initGlue (e : Env) (s : State) : State :=
  if s.glueInit then s.raise .controlState (controlInfo 0x30 0)
  else
    State.respond { s with glueInit := true, variantLatch := e.par.strap, glueWin := e.par.winIndex e.par.strap } .ok []

/-- GDEINIT, one step; the latch and the window index become unspecified, free values (R211, log 6). -/
def deinitGlue (e : Env) (s : State) : State :=
  if s.glueInit = false then s.raise .notInitialized (opcInfo 0x31)
  else
    match s.firstBegun with
    | some f => s.raise .controlState (controlInfo 0x31 f)
    | none =>
      State.respond
        { s with glueInit := false, variantLatch := e.freeVariant s.tick, glueWin := e.freeWin s.tick } .ok []

/-- The meaning of GINIT (R210). -/
def execGinit (s : State) : Host.Outcome State Fault Refusal := .next (initGlue Config.env s)

/-- The meaning of GDEINIT (R211). -/
def execGdeinit (s : State) : Host.Outcome State Fault Refusal := .next (deinitGlue Config.env s)

/-- The meaning of SUSPEND: it answers OK and changes no block state (R212). -/
def execSuspend (s : State) : Host.Outcome State Fault Refusal := .next (s.respond .ok [])

/-- The meaning of RESUME: it answers OK and changes no block state (R213). -/
def execResume (s : State) : Host.Outcome State Fault Refusal := .next (s.respond .ok [])

end Sys2Proof.Machine
end

