-- ==== Sys2Proof/Machine/Msi.lean ====
section
/-! DEFINITION. The MSI virtual line allocator and router: ALLOC, ALLOCB, COMPOSE, WRMSG, MASK, UNMASK, FREE, ASSIGN,
FREEI (R120–R162). -/

namespace Sys2Proof.Machine

/-- ALLOC, one step, its checks in the rule's order (R125). -/
def allocate (e : Env) (fn sf : BitVec 8) (virq : Word) (s : State) : State :=
  if s.glueInit = false then s.raise .notInitialized (opcInfo 0x10)
  else
    match fnId? fn, sfId? sf with
    | some f, some sub =>
      if sub ≠ bcast ∧ e.par.subfuncCount f ≤ sub.val then s.raise .badArgument (argInfo fn (sf.setWidth 32))
      else if s.dom[f] ≠ .built then s.respond .noDomain []
      else if (s.findLine virq).isSome then s.raise .duplicateVirq virq
      else if s.clash f sub then s.raise .hwirqConflict (encHwirq f sub)
      else if modeForbids s.mode[f] sub then s.raise .modeViolation (argInfo fn (sf.setWidth 32))
      else
        match s.firstEmpty with
        | none => s.respond .allocationTableExhausted []
        | some i =>
          State.respond
            { s with
              slots := s.slots.set i (some virq)
              lines := s.lines.set i
                { f := f, s := sub, virq := virq, mbits := maskBits (e.par.subfuncCount f) sub, st := .unconfigured,
                  busy := false } }
            .ok [BitVec.ofNat 32 i.val]
    | _, _ => s.raise .badArgument (argInfo fn (sf.setWidth 32))

/-- COMPOSE, one step (R130), with the degraded default when no controller context is resolvable (R131). -/
def composeMsg (e : Env) (virq : Word) (s : State) : State :=
  if s.glueInit = false then
    State.respond { s with diagFallback := s.diagFallback + 1 } .ok [e.par.msiAddr, virq - 1]
  else
    match s.findLine virq with
    | none => s.raise .composeNoSlot virq
    | some i =>
      if s.lines[i].busy then s.raise .reentry virq
      else s.respond .ok [e.par.msiAddr, BitVec.ofNat 32 i.val]

/-- The first checks of WRMSG, MASK, UNMASK and FREE: the state after the fault they raise, or `k i` for the line's slot
(R135, R140, R141, R150). -/
def withLine (opc : BitVec 8) (virq : Word) (s : State) (k : SlotIx → State) : State :=
  if s.glueInit = false then s.raise .notInitialized (opcInfo opc)
  else
    match s.findLine virq with
    | none => s.raise .unknownVirq virq
    | some i => if s.lines[i].busy then s.raise .reentry virq else k i

/-- Set `LINE[i].busy`, the state unchanged. -/
def State.setBusy (s : State) (i : SlotIx) : State := s.setLine i s.lines[i].st true

/-- WRMSG, step S1; a zero address is a no-op (R135, R136). -/
def writeMsg (e : Env) (virq addr data : Word) (s : State) : State :=
  withLine 0x12 virq s fun i =>
    if addr = 0 then s.respond .ok []
    else
      ((s.setBusy i).gbRead e (s.regs e).glueEn).hold
        (.wrmsgS2 i s.lines[i].f s.lines[i].s addr data (s.gbValue e (s.regs e).glueEn))

/-- WRMSG, step S2: disable the glue interrupt-enable bit (R135). -/
def writeMsgS2 (e : Env) (i : SlotIx) (f : FnId) (l : SubId) (addr data t : Word) (s : State) : State :=
  (s.gbWrite e (s.regs e).glueEn (t &&& ~~~(s.regs e).glueEnMask)).hold (.wrmsgS3 i f l addr data)

/-- WRMSG, step S3: the message address (R135). -/
def writeMsgS3 (e : Env) (i : SlotIx) (f : FnId) (l : SubId) (addr data : Word) (s : State) : State :=
  (s.gbWrite e ((s.regs e).addrReg f) addr).hold (.wrmsgS4 i f l data)

/-- WRMSG, step S4: the data-high field (R135). -/
def writeMsgS4 (e : Env) (i : SlotIx) (f : FnId) (l : SubId) (data : Word) (s : State) : State :=
  (s.gbWrite e ((s.regs e).dataHiReg f) ((s.regs e).dataHiVal data)).hold (.wrmsgS5 i f l data)

/-- WRMSG, step S5: data-low (R135, R137). -/
def writeMsgS5 (e : Env) (i : SlotIx) (f : FnId) (l : SubId) (data : Word) (s : State) : State :=
  (s.gbWrite e ((s.regs e).dataLoReg f l) ((s.regs e).dataLoVal data)).hold (.wrmsgS6 i)

/-- WRMSG, step S6: read the enable register again (R135). -/
def writeMsgS6 (e : Env) (i : SlotIx) (s : State) : State :=
  (s.gbRead e (s.regs e).glueEn).hold (.wrmsgS7 i (s.gbValue e (s.regs e).glueEn))

/-- The line state after WRMSG with a non-zero address (R31, R135). -/
def LineState.afterWrite : LineState → LineState
  | .unconfigured => .masked
  | .masked => .masked
  | .unmasked => .unmasked

/-- WRMSG, step S7: re-enable the glue bit; an Unconfigured line becomes Masked (R135). -/
def writeMsgS7 (e : Env) (i : SlotIx) (t : Word) (s : State) : State :=
  ((s.gbWrite e (s.regs e).glueEn (t ||| (s.regs e).glueEnMask)).setLine i s.lines[i].st.afterWrite false).respond .ok []

/-- MASK, step S1 (R140). -/
def maskLine (e : Env) (virq : Word) (s : State) : State :=
  withLine 0x13 virq s fun i =>
    ((s.setBusy i).gbRead e ((s.regs e).maskReg s.lines[i].f)).hold
      (.maskS2 i s.lines[i].f s.lines[i].mbits (s.gbValue e ((s.regs e).maskReg s.lines[i].f)))

/-- The line state after MASK (R31, R140). -/
def LineState.afterMask : LineState → LineState
  | .unconfigured => .unconfigured
  | .masked => .masked
  | .unmasked => .masked

/-- MASK, step S2: clear the line's bits (R140). -/
def maskLineS2 (e : Env) (i : SlotIx) (f : FnId) (b t : Word) (s : State) : State :=
  ((s.gbWrite e ((s.regs e).maskReg f) (t &&& ~~~b)).setLine i s.lines[i].st.afterMask false).respond .ok []

/-- UNMASK, step S1 (R141). -/
def unmaskLine (e : Env) (virq : Word) (s : State) : State :=
  withLine 0x14 virq s fun i =>
    if s.lines[i].st = .unconfigured then s.raise .lineState virq
    else
      ((s.setBusy i).gbRead e ((s.regs e).maskReg s.lines[i].f)).hold
        (.unmaskS2 i s.lines[i].f s.lines[i].mbits (s.gbValue e ((s.regs e).maskReg s.lines[i].f)))

/-- UNMASK, step S2: set the line's bits (R141). -/
def unmaskLineS2 (e : Env) (i : SlotIx) (f : FnId) (b t : Word) (s : State) : State :=
  ((s.gbWrite e ((s.regs e).maskReg f) (t ||| b)).setLine i .unmasked false).respond .ok []

/-- FREE, one step; `LINE[i]` becomes unspecified, a free value (R150, log 6). -/
def releaseLine (e : Env) (virq : Word) (s : State) : State :=
  withLine 0x15 virq s fun i =>
    if s.lines[i].st = .unmasked then s.raise .lineState virq
    else
      State.respond { s with slots := s.slots.set i none, lines := s.lines.set i (e.freeLine s.tick) } .ok []

/-- ASSIGN, one step (R160). -/
def assignVectors (e : Env) (fn : BitVec 8) (n g : Word) (s : State) : State :=
  if s.glueInit = false then s.raise .notInitialized (opcInfo 0x16)
  else
    match fnId? fn with
    | none => s.raise .badArgument (argInfo fn 0)
    | some f =>
      if n = 0 ∨ e.par.subfuncCount f < n.toNat then s.raise .badArgument (argInfo fn n)
      else if s.dom[f] ≠ .built then s.respond .noDomain []
      else if s.mode[f] ≠ .none ∨ s.anyLive f = true then s.raise .modeViolation (argInfo fn n)
      else if g = 0 then s.respond .grantFailed []
      else if n ≤ g then
        State.respond
          { s with mode := s.mode.set f (.perSub (Fin.ofNat 32 n.toNat)), grant := s.grant.set f n } .ok [n]
      else
        State.respond { s with mode := s.mode.set f .broadcast, grant := s.grant.set f g } .ok [g]

/-- FREEI, one step (R161). -/
def freeVectors (fn : BitVec 8) (s : State) : State :=
  if s.glueInit = false then s.raise .notInitialized (opcInfo 0x17)
  else
    match fnId? fn with
    | none => s.raise .badArgument (argInfo fn 0)
    | some f =>
      if s.anyLive f then s.raise .modeViolation (argInfo fn 0)
      else State.respond { s with mode := s.mode.set f .none, grant := s.grant.set f 0 } .ok []

/-- The meaning of ALLOC (R125). -/
def execAlloc (fn sf : BitVec 8) (virq : Word) (s : State) : Host.Outcome State Fault Refusal :=
  .next (allocate Config.env fn sf virq s)

/-- The meaning of ALLOCB: ALLOC f, 31, virq (R89). -/
def execAllocb (fn : BitVec 8) (virq : Word) (s : State) : Host.Outcome State Fault Refusal :=
  .next (allocate Config.env fn 0x1F virq s)

/-- The meaning of COMPOSE (R130, R131). -/
def execCompose (virq : Word) (s : State) : Host.Outcome State Fault Refusal := .next (composeMsg Config.env virq s)

/-- The meaning of WRMSG up to its first labelled step; the others are `writeMsgS2` to `writeMsgS7` (R135). -/
def execWrmsg (virq addr data : Word) (s : State) : Host.Outcome State Fault Refusal :=
  .next (writeMsg Config.env virq addr data s)

/-- The meaning of MASK up to its first labelled step; its second is `maskLineS2` (R140). -/
def execMask (virq : Word) (s : State) : Host.Outcome State Fault Refusal := .next (maskLine Config.env virq s)

/-- The meaning of UNMASK up to its first labelled step; its second is `unmaskLineS2` (R141). -/
def execUnmask (virq : Word) (s : State) : Host.Outcome State Fault Refusal := .next (unmaskLine Config.env virq s)

/-- The meaning of FREE (R150). -/
def execFree (virq : Word) (s : State) : Host.Outcome State Fault Refusal := .next (releaseLine Config.env virq s)

/-- The meaning of ASSIGN (R160). -/
def execAssign (fn : BitVec 8) (n g : Word) (s : State) : Host.Outcome State Fault Refusal :=
  .next (assignVectors Config.env fn n g s)

/-- The meaning of FREEI (R161). -/
def execFreei (fn : BitVec 8) (s : State) : Host.Outcome State Fault Refusal := .next (freeVectors fn s)

end Sys2Proof.Machine
end

