-- ==== Sys2Proof/Machine/Ral.lean ====
section
/-! DEFINITION. The register access layer: RD32, WR32, SETM, CLRM, MASKSET (R100–R106). -/

namespace Sys2Proof.Machine

/-- `CHECK_RAL(off)` before a command's first access: the state after the fault it raises, or `k`, the command's own S1
(R100). -/
def checkRal (e : Env) (opc : BitVec 8) (off : Word) (s : State) (k : State) : State :=
  if s.glueInit = false then s.raise .notInitialized (opcInfo opc)
  else if (s.regs e).admits off = false then s.raise .badOffset off
  else k

/-- RD32 (R101). -/
def readReg (e : Env) (off : Word) (s : State) : State :=
  checkRal e 0x01 off s ((s.gbRead e off).respond .ok [s.gbValue e off])

/-- WR32 (R102). -/
def writeReg (e : Env) (off val : Word) (s : State) : State :=
  checkRal e 0x02 off s ((s.gbWrite e off val).respond .ok [])

/-- SETM, step S1 (R103). -/
def setMask (e : Env) (off mask : Word) (s : State) : State :=
  checkRal e 0x03 off s ((s.gbRead e off).hold (.setmS2 off mask (s.gbValue e off)))

/-- SETM, step S2 (R103). -/
def setMaskS2 (e : Env) (off mask t : Word) (s : State) : State := (s.gbWrite e off (t ||| mask)).respond .ok []

/-- CLRM, step S1 (R104). -/
def clearMask (e : Env) (off mask : Word) (s : State) : State :=
  checkRal e 0x04 off s ((s.gbRead e off).hold (.clrmS2 off mask (s.gbValue e off)))

/-- CLRM, step S2 (R104). -/
def clearMaskS2 (e : Env) (off mask t : Word) (s : State) : State := (s.gbWrite e off (t &&& ~~~mask)).respond .ok []

/-- MASKSET, step S1 (R105). -/
def maskAndSet (e : Env) (off clr set : Word) (s : State) : State :=
  checkRal e 0x05 off s ((s.gbRead e off).hold (.masksetS2 off clr set (s.gbValue e off)))

/-- MASKSET, step S2: the clear is applied first (R105). -/
def maskAndSetS2 (e : Env) (off clr set t : Word) (s : State) : State :=
  (s.gbWrite e off ((t &&& ~~~clr) ||| set)).respond .ok []

/-- The meaning of RD32 (R101). -/
def execRd32 (off : Word) (s : State) : Host.Outcome State Fault Refusal := .next (readReg Config.env off s)

/-- The meaning of WR32 (R102). -/
def execWr32 (off val : Word) (s : State) : Host.Outcome State Fault Refusal := .next (writeReg Config.env off val s)

/-- The meaning of SETM up to its first labelled step; its second is `setMaskS2` (R103). -/
def execSetm (off mask : Word) (s : State) : Host.Outcome State Fault Refusal := .next (setMask Config.env off mask s)

/-- The meaning of CLRM up to its first labelled step; its second is `clearMaskS2` (R104). -/
def execClrm (off mask : Word) (s : State) : Host.Outcome State Fault Refusal := .next (clearMask Config.env off mask s)

/-- The meaning of MASKSET up to its first labelled step; its second is `maskAndSetS2` (R105). -/
def execMaskset (off clr set : Word) (s : State) : Host.Outcome State Fault Refusal :=
  .next (maskAndSet Config.env off clr set s)

end Sys2Proof.Machine
end

