-- ==== Sys2Proof/Machine/Dispatch.lean ====
section
/-! DEFINITION. One arm for each instruction: a command's step S1, or the acceptance of an edge event. -/

namespace Sys2Proof.Machine

def exec (i : Instr) (s : State) : Host.Outcome State Fault Refusal :=
  match i with
  | .rd32 off => Sys2Proof.Machine.execRd32 off s
  | .wr32 off val => Sys2Proof.Machine.execWr32 off val s
  | .setm off mask => Sys2Proof.Machine.execSetm off mask s
  | .clrm off mask => Sys2Proof.Machine.execClrm off mask s
  | .maskset off clr set => Sys2Proof.Machine.execMaskset off clr set s
  | .alloc fn sf virq => Sys2Proof.Machine.execAlloc fn sf virq s
  | .compose virq => Sys2Proof.Machine.execCompose virq s
  | .wrmsg virq addr data => Sys2Proof.Machine.execWrmsg virq addr data s
  | .mask virq => Sys2Proof.Machine.execMask virq s
  | .unmask virq => Sys2Proof.Machine.execUnmask virq s
  | .free virq => Sys2Proof.Machine.execFree virq s
  | .assign fn n g => Sys2Proof.Machine.execAssign fn n g s
  | .freei fn => Sys2Proof.Machine.execFreei fn s
  | .dbuild fn => Sys2Proof.Machine.execDbuild fn s
  | .dbuildall => Sys2Proof.Machine.execDbuildall s
  | .dtear => Sys2Proof.Machine.execDtear s
  | .dlookup fn sf => Sys2Proof.Machine.execDlookup fn sf s
  | .ginit => Sys2Proof.Machine.execGinit s
  | .gdeinit => Sys2Proof.Machine.execGdeinit s
  | .suspend => Sys2Proof.Machine.execSuspend s
  | .resume => Sys2Proof.Machine.execResume s
  | .allocb fn virq => Sys2Proof.Machine.execAllocb fn virq s
  | .edge h => Sys2Proof.Machine.execEdge h s

end Sys2Proof.Machine
end

