-- ==== Sys2Proof/Machine/Agents.lean ====
section
/-! DEFINITION. The agents of R24: one step of a requester, and of the environment; the demux agents' steps are in
Machine/Demux.lean. -/

namespace Sys2Proof.Machine

/-- The next labelled step of a command in progress (R13, R38). -/
def resumeWork (e : Env) (w : Work) (s : State) : State :=
  match w with
  | .setmS2 off mask t => setMaskS2 e off mask t s
  | .clrmS2 off mask t => clearMaskS2 e off mask t s
  | .masksetS2 off clr set t => maskAndSetS2 e off clr set t s
  | .wrmsgS2 i f l addr data t => writeMsgS2 e i f l addr data t s
  | .wrmsgS3 i f l addr data => writeMsgS3 e i f l addr data s
  | .wrmsgS4 i f l data => writeMsgS4 e i f l data s
  | .wrmsgS5 i f l data => writeMsgS5 e i f l data s
  | .wrmsgS6 i => writeMsgS6 e i s
  | .wrmsgS7 i t => writeMsgS7 e i t s
  | .maskS2 i f b t => maskLineS2 e i f b t s
  | .unmaskS2 i f b t => unmaskLineS2 e i f b t s

/-- Take the words of a command off port `r`; `rest` stays (R73, R80). -/
def State.takeWords (s : State) (r : Nat) (rest : List Word) : State := s.onPort r fun p => { p with words := rest }

/-- One step of `REQ[r]`: the command in progress goes on, else the next command on `CP[r]` begins; an illegal header
raises IllegalCommand (R84). A requester with nothing to do, or whose command has not come whole, does not move. -/
def stepRequester (r : Nat) (s : State) : Host.Outcome State Fault Refusal :=
  match s.ports[r]? with
  | none => .next s
  | some p =>
    match p.work with
    | some w => .next (resumeWork Config.env w s)
    | none =>
      match decode p.words with
      | .command i rest => exec i (s.takeWords r rest)
      | .illegal h rest => .next ((s.takeWords r rest).raise .illegalCommand h)
      | .short => .next s

/-- One step of the environment (R24, R250). -/
def stepEnvironment (a : Arrival) (s : State) : Host.Outcome State Fault Refusal :=
  match a with
  | .quiet => .next s
  | .word r w => .next (s.onPort r fun p => { p with words := p.words ++ [w] })
  | .edge h => exec (.edge h) s
  | .create => .next s.create
  | .remove => .fault .removed

/-- One step of the agent whose turn it is. -/
def stepTurn (t : Turn) (s : State) : Host.Outcome State Fault Refusal :=
  match t with
  | .req r => stepRequester r s
  | .dmx g => .next (stepDemux Config.env g s)
  | .dflt => .next (stepDefault Config.env s)
  | .env a => stepEnvironment a s

/-- Count the step and draw whose turn is next (R24, log 2). -/
def State.advance (e : Env) (s : State) : State := { s with turn := e.nextTurn s.tick, tick := s.tick + 1 }

/-- Port 0 with exactly these words waiting, nothing in progress, its responses kept. -/
def State.presentWords (s : State) (ws : List Word) : State :=
  let had := (s.ports.head?.map Port.responses).getD []
  { s with turn := .req 0, ports := { words := ws, work := none, responses := had } :: s.ports.tail }

end Sys2Proof.Machine
end

