-- ==== Sys2Proof/Machine/Step.lean ====
section
/-! DEFINITION. One step of the machine, and the placing of one instruction where the next step takes it. -/

namespace Sys2Proof.Machine

/-- One step: the agent whose turn it is takes one labelled step; then the schedule is drawn (R13, R24). -/
def step (s : State) : Host.Outcome State Fault Refusal :=
  match stepTurn s.turn s with
  | .next t => .next (t.advance Config.env)
  | .fault r => .fault r
  | .refused r => .refused r

/-- `s` with one instruction of the opcode table placed so that the very next step runs it: a command's words, as many as
its header says, on port 0 with requester 0's turn; an event on `EI` with the environment's turn (log 9, log 10). -/
def State.withFetchWord (s : State) (nbits w : Nat) : State :=
  match decodeTableWord nbits w with
  | some (.edge h) => { s with turn := .env (.edge h) }
  | _ =>
    let ws := tableWords nbits w
    s.presentWords (ws.take (commandLength (ws.headD 0)))

end Sys2Proof.Machine
end

