-- ==== Sys2Proof/Safety.lean ====
section
/-! DEFINITION. What claims about the machine speak of: complete and good states (R262), the invariants of R32 and of the
agents' local state, and a requester's command run with no other agent in between. -/

namespace Sys2Proof

open Sys2Proof.Machine

/-- A demux agent is Idle. -/
def idleDmx (d : Dmx) : Bool := decide (d.phase = .idle)

/-- A run is complete in this state (R262). -/
def isComplete (s : State) : Bool :=
  s.ports.all (fun p => p.work.isNone) &&
  idleDmx s.dmx.glue && idleDmx s.dmx.usb && idleDmx s.dmx.dma &&
  !s.ependG.glue && !s.ependG.usb && !s.ependG.dma &&
  s.ependH.isEmpty && decide (s.ackLock = .free)

/-- A complete state is good if no fault has been recorded (R262). -/
def isGood (s : State) : Bool := isComplete s && decide (s.fltCount = 0)

/-- The offset is admitted in the window of the latched variant (R63). -/
def Admitted (s : State) (off : Word) : Prop :=
  off.extractLsb' 0 2 = 0 ∧ off ≤ (Config.params.regs s.variantLatch).glueSize - 4

/-- Slot `i` is the one that holds `virq` (R124). -/
def HoldsLine (s : State) (virq : Word) (i : SlotIx) : Prop :=
  s.slots[i] = some virq ∧ ∀ j : SlotIx, s.slots[j] = some virq → j = i

/-- The next step of the machine runs the command `i` from port `r`. -/
def RunsFrom (s : State) (r : Nat) (i : Instr) : Prop :=
  s.turn = .req r ∧ ∃ p rest, s.ports[r]? = some p ∧ p.work = none ∧ decode p.words = .command i rest

/-- The command in progress on port `r`. -/
def workOf (s : State) (r : Nat) : Option Work := s.ports[r]?.bind Port.work

/-- `n` labelled steps of the command in progress on port `r` with no other agent's step between them. -/
def alone (e : Env) (r : Nat) : Nat → State → State
  | 0, s => s
  | n + 1, s =>
    match workOf s r with
    | some w => alone e r n (resumeWork e w s)
    | none => s

/-- The table invariants (a) to (e) of R32, and that a live line's fields are the ones ALLOC computed (R30, R125). -/
structure TableInv (s : State) : Prop where
  virqOnce : ∀ (i j : SlotIx) (v : Word), s.slots[i] = some v → s.slots[j] = some v → i = j
  hwirqOnce : ∀ i j : SlotIx, s.slots[i] ≠ none → s.slots[j] ≠ none →
    encHwirq s.lines[i].f s.lines[i].s = encHwirq s.lines[j].f s.lines[j].s → i = j
  broadcastAlone : ∀ i j : SlotIx, s.slots[i] ≠ none → s.slots[j] ≠ none → s.lines[i].f = s.lines[j].f →
    s.lines[i].s = bcast → i = j
  domainBuilt : ∀ i : SlotIx, s.slots[i] ≠ none → s.dom[s.lines[i].f] = .built
  virqAgrees : ∀ (i : SlotIx) (v : Word), s.slots[i] = some v → s.lines[i].virq = v
  subInRange : ∀ i : SlotIx, s.slots[i] ≠ none →
    s.lines[i].s = bcast ∨ s.lines[i].s.val < Config.params.subfuncCount s.lines[i].f
  maskAgrees : ∀ i : SlotIx, s.slots[i] ≠ none →
    s.lines[i].mbits = maskBits (Config.params.subfuncCount s.lines[i].f) s.lines[i].s

/-- The grant invariants: what MODE and GRANT say of each other (R34, R160), and that every live line is one its
function's mode admits, so in Broadcast mode only the broadcast line (R162). -/
structure GrantInv (s : State) : Prop where
  noneGrant : ∀ f : FnId, s.mode[f] = .none → s.grant[f] = 0
  perSubGrant : ∀ (f : FnId) (n : Fin 32), s.mode[f] = .perSub n →
    1 ≤ n.val ∧ n.val ≤ Config.params.subfuncCount f ∧ s.grant[f] = BitVec.ofNat 32 n.val
  broadcastGrant : ∀ f : FnId, s.mode[f] = .broadcast →
    s.grant[f] ≠ 0 ∧ s.grant[f].toNat < Config.params.subfuncCount f
  perSubLines : ∀ (i : SlotIx) (n : Fin 32), s.slots[i] ≠ none → s.mode[s.lines[i].f] = .perSub n →
    s.lines[i].s ≠ bcast ∧ s.lines[i].s.val < n.val
  broadcastLines : ∀ i : SlotIx, s.slots[i] ≠ none → s.mode[s.lines[i].f] = .broadcast → s.lines[i].s = bcast

/-- The domain invariants: no other domain is begun before the primary is Built (R177), the primary is never Failed, and
every Built domain has the primary's parent, every other none (R171, R33). -/
structure DomainInv (s : State) : Prop where
  primaryFirst : ∀ f : FnId, f ≠ Config.params.primary → s.dom[f] ≠ .unbuilt →
    s.dom[Config.params.primary] = .built
  primaryNotFailed : s.dom[Config.params.primary] ≠ .failed
  builtParent : ∀ f : FnId, s.dom[f] = .built →
    s.domParent[f] ≠ .none ∧ s.domParent[f] = s.domParent[Config.params.primary]
  otherParent : ∀ f : FnId, s.dom[f] ≠ .built → s.domParent[f] = .none

/-- The demultiplexer's invariants: the lock is held by exactly the agent between T1 and T4 (R35, R194–R196, R256), bits
are left exactly while dispatching (R37), and `EPEND_H` is a set of valid hwirqs (R36, R192). -/
structure DemuxInv (s : State) : Prop where
  lockHolder : ∀ g : Group, s.ackLock = .held g ↔ ∃ k, (s.dmx.get g).phase = .locked k
  bitsLeft : ∀ g : Group, (s.dmx.get g).phase = .dispatching ↔ (s.dmx.get g).pendLeft ≠ 0
  rising : s.ependH.Pairwise (· < ·)
  valid : ∀ h ∈ s.ependH, (decHwirq h).isSome = true

/-- The latched variant is the strap while initialised (R27, R210); on variant A the demultiplexer never runs (R200). -/
structure VariantInv (s : State) : Prop where
  latched : s.glueInit = true → s.variantLatch = Config.params.strap
  quietOnA : Config.params.strap = .A →
    s.ackLock = .free ∧ ∀ g : Group, s.ependG.get g = false ∧ (s.dmx.get g).phase = .idle

/-- The line a command in progress works on, if any. -/
def workLine : Work → Option SlotIx
  | .setmS2 _ _ _ | .clrmS2 _ _ _ | .masksetS2 _ _ _ _ => none
  | .wrmsgS2 i _ _ _ _ _ | .wrmsgS3 i _ _ _ _ | .wrmsgS4 i _ _ _ | .wrmsgS5 i _ _ _ | .wrmsgS6 i | .wrmsgS7 i _
  | .maskS2 i _ _ _ | .unmaskS2 i _ _ _ => some i

/-- The offset the next labelled step of a command in progress stores to, if it stores (R103–R105, R135, R140, R141). -/
def workStore (g : GlueRegs) : Work → Option Word
  | .setmS2 off _ _ | .clrmS2 off _ _ | .masksetS2 off _ _ _ => some off
  | .wrmsgS2 _ _ _ _ _ _ => some g.glueEn
  | .wrmsgS3 _ f _ _ _ => some (g.addrReg f)
  | .wrmsgS4 _ f _ _ => some (g.dataHiReg f)
  | .wrmsgS5 _ f l _ => some (g.dataLoReg f l)
  | .wrmsgS6 _ => none
  | .wrmsgS7 _ _ => some g.glueEn
  | .maskS2 _ f _ _ | .unmaskS2 _ f _ _ => some (g.maskReg f)

/-- Every byte of the glue window but the four of the register at `off` reads the same in both states. -/
def SameBytesBut (off : Word) (s t : State) : Prop :=
  ∀ a : Nat, (a < off.toNat ∨ off.toNat + 4 ≤ a) →
    memByte Config.params.glue0 t.mem a = memByte Config.params.glue0 s.mem a

/-- The invariants of the ports and their commands: there are `NUM_REQ` ports (R8, R22); a command in progress works on a
live line that is busy, no two on the same line, and a live line is busy only while a command works on it (R30, R258). -/
structure BusyInv (s : State) : Prop where
  portCount : s.ports.length = Config.params.numReq
  worksOnBusy : ∀ (r : Nat) (w : Work) (i : SlotIx), workOf s r = some w → workLine w = some i →
    s.slots[i] ≠ none ∧ s.lines[i].busy = true
  oneEach : ∀ (r r' : Nat) (w w' : Work) (i : SlotIx), workOf s r = some w → workOf s r' = some w' →
    workLine w = some i → workLine w' = some i → r = r'
  busyHasWork : ∀ i : SlotIx, s.slots[i] ≠ none → s.lines[i].busy = true →
    ∃ r w, workOf s r = some w ∧ workLine w = some i

/-- No response has a status the block never produces (R220). -/
def StatusInv (s : State) : Prop :=
  ∀ p ∈ s.ports, ∀ a ∈ p.responses, a.status ≠ .resourceBusy ∧ a.status ≠ .mappingFailed

end Sys2Proof
end

