-- ==== Sys2Proof/Certificates/Slice0/Obligations.lean ====
section
/-! DEFINITION. The statements for the provers. Each formalises rules of spec/; OBLIGATIONS.json names them. -/

section

open Sys2Proof Sys2Proof.Machine

/-! ## Encoding -/

/-- R80–R83, R88–R90, R87: decoding the words of a well-formed command gives it back, whatever follows; decoding an
event word gives the event. Two points are the model's choice: the words of ALLOC f, 31 are spelled ALLOCB, so that term is
not well formed (log 11), and a table word that is no command is read as an event by its zero bits alone, also with
h[15:8] > 7, which R87's value check excludes and the event's acceptance finds (log 10). -/
def Obligations.DecodeOfEncode : Prop :=
  (∀ (i : Instr) (rest : List Word), i.wellFormed = true → (∀ h, i ≠ .edge h) →
    decode (encode i ++ rest) = .command i rest) ∧
  (∀ h : Word, (Instr.edge h).wellFormed = true → decodeTableWord 32 h.toNat = some (.edge h))

/-- R80, R84, R90: what decodes to a command is exactly that command's words and what follows them, so no bit of them is
dropped and no operand word is missed. That the command is well formed says that no words decode to ALLOC f, 31, whose
words are spelled ALLOCB: the model's choice, log 11. -/
def Obligations.EncodeOfDecode : Prop :=
  ∀ (ws : List Word) (i : Instr) (rest : List Word), decode ws = .command i rest →
    i.wellFormed = true ∧ (∀ h, i ≠ .edge h) ∧ encode i ++ rest = ws

/-- Words written out in 95_test_vectors.md section 2.1 and R88. -/
def Obligations.SampleWordsDecode : Prop :=
  decode [0x10070100, 0x00000028] = .command (.alloc 7 1 40) [] ∧
  decode [0x10051F00, 0x0000003C] = .command (.allocb 5 60) [] ∧
  decode [0x23070200] = .command (.dlookup 7 2) [] ∧
  decode [0x05000000, 0x100, 0xFFFF, 0x1] = .command (.maskset 0x100 0xFFFF 0x1) [] ∧
  decode [0x16070000, 3, 3, 9] = .command (.assign 7 3 3) [9] ∧
  decode [0x20080000] = .command (.dbuild 8) [] ∧
  decode [0x30000000] = .command .ginit [] ∧
  decode [0x00000000] = .illegal 0 [] ∧
  decode [0x06000000] = .illegal 0x06000000 [] ∧
  decode [0x01000001, 5] = .illegal 0x01000001 [5] ∧
  decode [0x01010000] = .illegal 0x01010000 [] ∧
  decode [0x16070100] = .illegal 0x16070100 []

/-- R84: a header with an unlisted opcode, a non-zero RSV, or a non-zero FN or SF its opcode does not use raises
IllegalCommand(header); only the header is taken, and nothing else changes but the response. -/
def Obligations.IllegalHeaderRaises : Prop :=
  ∀ (s : State) (r : Nat) (p : Port) (h : Word) (ops : List Word),
    s.turn = .req r → s.ports[r]? = some p → p.work = none → p.words = h :: ops →
    (h.extractLsb' 24 8 ∉ ([0x01, 0x02, 0x03, 0x04, 0x05, 0x10, 0x11, 0x12, 0x13, 0x14, 0x15, 0x16, 0x17, 0x20, 0x21,
        0x22, 0x23, 0x30, 0x31, 0x32, 0x33] : List (BitVec 8)) ∨
      h.extractLsb' 0 8 ≠ 0 ∨
      (h.extractLsb' 16 8 ≠ 0 ∧ h.extractLsb' 24 8 ∉ ([0x10, 0x16, 0x17, 0x20, 0x23] : List (BitVec 8))) ∨
      (h.extractLsb' 8 8 ≠ 0 ∧ h.extractLsb' 24 8 ∉ ([0x10, 0x23] : List (BitVec 8)))) →
    step s = .next (((s.takeWords r ops).raise .illegalCommand h).advance Config.env)

/-- R89: ALLOCB f, virq is ALLOC f, 31, virq: the same effect, and the header `0x10000000 | (f << 16) | 0x1F00`. -/
def Obligations.AllocbExpands : Prop :=
  ∀ (fn : BitVec 8) (virq : Word) (s : State),
    exec (.allocb fn virq) s = exec (.alloc fn 0x1F virq) s ∧
    encode (.allocb fn virq) = encode (.alloc fn 0x1F virq) ∧
    encode (.allocb fn virq) = [0x10000000 ||| (fn.setWidth 32 <<< 16) ||| 0x1F00, virq]

/-! ## The step -/

/-- R21, R24, R73, R80: when a requester's turn comes and a whole command stands on its port, the step is `exec` of it with
its words taken, and then the schedule; a command in progress takes its next labelled step; with no words, or only the
beginning of a command's words, the requester does not move (log 16), nor does one that has no port (log 8). The
environment's steps: an event on `EI` is executed (R192), a word joins its port's, or nothing arrives (log 2, log 9). -/
def Obligations.StepRunsDecoded : Prop :=
  (∀ (s : State) (r : Nat) (p : Port), s.turn = .req r → s.ports[r]? = some p →
    (∀ (i : Instr) (rest : List Word), p.work = none → decode p.words = .command i rest →
      ∃ t, exec i (s.takeWords r rest) = .next t ∧ step s = .next (t.advance Config.env)) ∧
    (∀ w : Work, p.work = some w → step s = .next ((resumeWork Config.env w s).advance Config.env)) ∧
    (∀ (i : Instr) (more : List Word), p.work = none → (∀ h, i ≠ .edge h) → p.words ++ more = encode i → more ≠ [] →
      step s = .next (s.advance Config.env))) ∧
  (∀ (s : State) (r : Nat), s.turn = .req r → s.ports[r]? = none → step s = .next (s.advance Config.env)) ∧
  (∀ (s : State) (h : Word), s.turn = .env (.edge h) →
    ∃ t, exec (.edge h) s = .next t ∧ step s = .next (t.advance Config.env)) ∧
  (∀ (s : State) (r : Nat) (w : Word), s.turn = .env (.word r w) →
    (s.ports[r]? = none → step s = .next (s.advance Config.env)) ∧
    ∀ p : Port, s.ports[r]? = some p → ∃ t : State, step s = .next (t.advance Config.env) ∧
      t = { s with ports := t.ports } ∧ t.ports[r]? = some { p with words := p.words ++ [w] } ∧
      ∀ r' : Nat, r' ≠ r → t.ports[r']? = s.ports[r']?) ∧
  (∀ s : State, s.turn = .env .quiet → step s = .next (s.advance Config.env))

/-- R250: the machine stops exactly when the environment removes the instance; no step is ever refused. -/
def Obligations.OnlyRemovalStops : Prop :=
  ∀ s : State, ((∃ x, step s = .fault x) ↔ s.turn = .env .remove) ∧ ∀ x, step s ≠ .refused x

/-- R43: the values the reset table gives. -/
def Obligations.ResetValues : Prop :=
  State.reset.glueInit = false ∧
  (∀ i : SlotIx, State.reset.slots[i] = none) ∧
  (∀ f : FnId, State.reset.dom[f] = .unbuilt ∧ State.reset.domParent[f] = .none ∧ State.reset.mode[f] = .none ∧
    State.reset.grant[f] = 0) ∧
  State.reset.ackLock = .free ∧
  (∀ g : Group, State.reset.ependG.get g = false ∧ (State.reset.dmx.get g).phase = .idle ∧
    (State.reset.dmx.get g).pendLeft = 0) ∧
  State.reset.ependH = [] ∧
  (∀ r, workOf State.reset r = none) ∧
  State.reset.fltCode = 0 ∧ State.reset.fltInfo = 0 ∧ State.reset.fltCount = 0 ∧
  State.reset.diagFallback = 0 ∧ State.reset.diagSkip = 0 ∧ State.reset.diagSpurious = 0 ∧
  State.reset.dlog = []

/-- R250: creating the instance, from any state, sets the block state to its reset values, abandons every command with no
response and every demux run, and leaves the glue window alone. Two points are the model's choice: that waiting words and
earlier responses stay (log 17), and the values of the latch, the window index and the line records, which R43 leaves
unspecified and `State.reset` names (log 5). -/
def Obligations.CreationResets : Prop :=
  ∀ s : State, s.turn = .env .create → ∃ t, step s = .next t ∧
    t = { State.reset with
          ports := s.ports.map fun p => { p with work := none }
          mem := s.mem, gbLog := s.gbLog, pdLog := s.pdLog
          turn := Config.nextTurn s.tick, tick := s.tick + 1 } ∧
    ∀ r, workOf t r = none

/-! ## Pure functions -/

/-- R120, R121, R123: what a valid hwirq is and what it decodes to; the two directions of the round trip. -/
def Obligations.HwirqRoundTrip : Prop :=
  (∀ (f : FnId) (l : SubId), decHwirq (encHwirq f l) = some (f, l)) ∧
  (∀ (h : Word) (f : FnId) (l : SubId), decHwirq h = some (f, l) → encHwirq f l = h) ∧
  (∀ (h : Word) (f : FnId) (l : SubId), decHwirq h = some (f, l) ↔
    h.extractLsb' 16 16 = 0 ∧ h.extractLsb' 5 3 = 0 ∧
    (h.extractLsb' 8 8).toNat = f.val ∧ (h.extractLsb' 0 5).toNat = l.val)

/-- R122: a concrete line's mask is its own bit; the broadcast mask is exactly the function's configured count of bits,
the low ones, so it lies between 0x00000001 and 0x7FFFFFFF and is the exact value with no overflow. -/
def Obligations.MaskBitsExact : Prop :=
  (∀ (f : FnId) (l : SubId) (i : Nat), i < 32 →
    ((maskBits (Config.params.subfuncCount f) l).getLsbD i = true ↔
      if l = 31 then i < Config.params.subfuncCount f else i = l.val)) ∧
  ∀ f : FnId, 0x00000001 ≤ maskBits (Config.params.subfuncCount f) 31 ∧
    maskBits (Config.params.subfuncCount f) 31 ≤ 0x7FFFFFFF ∧
    (maskBits (Config.params.subfuncCount f) 31).toNat = 2 ^ Config.params.subfuncCount f - 1

/-- R190: bit i is pending iff the group mask has it and bit i of the shifted ack value is 0; zeros shifted in at the top
are pending if the mask covers them. -/
def Obligations.PendingBits : Prop :=
  ∀ (a m : Word) (sh i : Nat), i < 32 →
    ((computePending a m sh).getLsbD i = true ↔ m.getLsbD i = true ∧ (sh + i < 32 → a.getLsbD (sh + i) = false))

/-! ## The glue window -/

/-- R64, R65: a plain register reads the last value written there, or its launch value before any write; a volatile one
reads the draw whatever was written, and the ack-read register is one; every other 4-aligned register reads as before the
write. -/
def Obligations.RegisterReadsLastWrite : Prop :=
  (∀ (s : State) (off v : Word),
    (s.gbWrite Config.env off v).gbValue Config.env off =
      (if off ∈ (Config.params.regs s.variantLatch).volatileRegs then Config.ackValue s.tick else v) ∧
    ∀ x : Word, off.extractLsb' 0 2 = 0 → x.extractLsb' 0 2 = 0 → x ≠ off →
      (s.gbWrite Config.env off v).gbValue Config.env x = s.gbValue Config.env x) ∧
  (∀ off : Word, memWord Config.params.glue0 State.reset.mem off =
    Config.params.glue0 (off.toNat + 3) ++ Config.params.glue0 (off.toNat + 2) ++ Config.params.glue0 (off.toNat + 1) ++
      Config.params.glue0 off.toNat) ∧
  ∀ v : Variant, (Config.params.regs v).ackRd ∈ (Config.params.regs v).volatileRegs

/-- R66: the byte at `off + k` is bits 8k+7..8k of the register at `off`; no other byte changes. The byte order is general
knowledge and a decision of the spec (D4), not in the source: log 12. -/
def Obligations.GlueIsLittleEndian : Prop :=
  ∀ (s : State) (off v : Word),
    (∀ k, k < 4 → memByte Config.params.glue0 (s.gbWrite Config.env off v).mem (off.toNat + k) = v.extractLsb' (8 * k) 8) ∧
    SameBytesBut off s (s.gbWrite Config.env off v) ∧
    ∀ k, k < 4 → (memWord Config.params.glue0 s.mem off).extractLsb' (8 * k) 8 =
      memByte Config.params.glue0 s.mem (off.toNat + k)

/-! ## Register access layer -/

/-- R101, with the checks of R100 and R63. -/
def Obligations.Rd32Rule : Prop :=
  ∀ (s : State) (off : Word),
    encode (.rd32 off) = [0x01000000, off] ∧
    (s.glueInit = false → exec (.rd32 off) s = .next (s.raise .notInitialized 0x01)) ∧
    (s.glueInit = true → ¬ Admitted s off → exec (.rd32 off) s = .next (s.raise .badOffset off)) ∧
    (s.glueInit = true → Admitted s off → ∃ v,
      v = (if off ∈ (Config.params.regs s.variantLatch).volatileRegs then Config.ackValue s.tick
        else memWord Config.params.glue0 s.mem off) ∧
      exec (.rd32 off) s =
        .next (State.respond { s with gbLog := s.gbLog ++ [{ agent := s.turn, op := .read off v }] } .ok [v]))

/-- R102, with the checks of R100 and R63. -/
def Obligations.Wr32Rule : Prop :=
  ∀ (s : State) (off val : Word),
    encode (.wr32 off val) = [0x02000000, off, val] ∧
    (s.glueInit = false → exec (.wr32 off val) s = .next (s.raise .notInitialized 0x02)) ∧
    (s.glueInit = true → ¬ Admitted s off → exec (.wr32 off val) s = .next (s.raise .badOffset off)) ∧
    (s.glueInit = true → Admitted s off → ∃ t,
      exec (.wr32 off val) s = .next t ∧
      t = State.respond { s with
            mem := t.mem, gbLog := s.gbLog ++ [{ agent := s.turn, op := .write off val }] } .ok [] ∧
      memWord Config.params.glue0 t.mem off = val ∧ SameBytesBut off s t)

/-- R103: SETM's two steps, with the checks of R100 and R63. The second step writes whatever another agent has done in
between (R67). -/
def Obligations.SetmRule : Prop :=
  ∀ (s : State) (off mask : Word),
    encode (.setm off mask) = [0x03000000, off, mask] ∧
    (s.glueInit = false → exec (.setm off mask) s = .next (s.raise .notInitialized 0x03)) ∧
    (s.glueInit = true → ¬ Admitted s off → exec (.setm off mask) s = .next (s.raise .badOffset off)) ∧
    (s.glueInit = true → Admitted s off →
      exec (.setm off mask) s =
        .next ((s.gbRead Config.env off).hold (.setmS2 off mask (s.gbValue Config.env off)))) ∧
    (∀ (r : Nat) (t : Word), s.turn = .req r → workOf s r = some (.setmS2 off mask t) →
      step s = .next (((s.gbWrite Config.env off (t ||| mask)).respond .ok []).advance Config.env))

/-- R104: CLRM's two steps, with the checks of R100 and R63. -/
def Obligations.ClrmRule : Prop :=
  ∀ (s : State) (off mask : Word),
    encode (.clrm off mask) = [0x04000000, off, mask] ∧
    (s.glueInit = false → exec (.clrm off mask) s = .next (s.raise .notInitialized 0x04)) ∧
    (s.glueInit = true → ¬ Admitted s off → exec (.clrm off mask) s = .next (s.raise .badOffset off)) ∧
    (s.glueInit = true → Admitted s off →
      exec (.clrm off mask) s =
        .next ((s.gbRead Config.env off).hold (.clrmS2 off mask (s.gbValue Config.env off)))) ∧
    (∀ (r : Nat) (t : Word), s.turn = .req r → workOf s r = some (.clrmS2 off mask t) →
      step s = .next (((s.gbWrite Config.env off (t &&& ~~~mask)).respond .ok []).advance Config.env))

/-- R105: MASKSET's two steps, the clear before the set, with the checks of R100 and R63. -/
def Obligations.MasksetRule : Prop :=
  ∀ (s : State) (off clr set : Word),
    encode (.maskset off clr set) = [0x05000000, off, clr, set] ∧
    (s.glueInit = false → exec (.maskset off clr set) s = .next (s.raise .notInitialized 0x05)) ∧
    (s.glueInit = true → ¬ Admitted s off → exec (.maskset off clr set) s = .next (s.raise .badOffset off)) ∧
    (s.glueInit = true → Admitted s off →
      exec (.maskset off clr set) s =
        .next ((s.gbRead Config.env off).hold (.masksetS2 off clr set (s.gbValue Config.env off)))) ∧
    (∀ (r : Nat) (t : Word), s.turn = .req r → workOf s r = some (.masksetS2 off clr set t) →
      step s = .next (((s.gbWrite Config.env off ((t &&& ~~~clr) ||| set)).respond .ok []).advance Config.env))

/-- R103, R104, R105, R67: run with no other agent in between, each read-modify-write command ends with its register
changed bit by bit as the command says, a bit in both masks of MASKSET set, every other byte alone, and one OK. -/
def Obligations.ReadModifyWriteAlone : Prop :=
  ∀ (s : State) (r : Nat) (p : Port) (off m1 m2 : Word),
    s.turn = .req r → s.ports[r]? = some p → p.work = none → s.glueInit = true → Admitted s off →
    (∃ u, exec (.setm off m1) s = .next u ∧
      memWord Config.params.glue0 (alone Config.env r 1 u).mem off = s.gbValue Config.env off ||| m1 ∧
      SameBytesBut off s (alone Config.env r 1 u) ∧
      (alone Config.env r 1 u).ports[r]? = some { p with responses := p.responses ++ [{ status := .ok, results := [] }] }) ∧
    (∃ u, exec (.clrm off m1) s = .next u ∧
      memWord Config.params.glue0 (alone Config.env r 1 u).mem off = s.gbValue Config.env off &&& ~~~m1 ∧
      SameBytesBut off s (alone Config.env r 1 u) ∧
      (alone Config.env r 1 u).ports[r]? = some { p with responses := p.responses ++ [{ status := .ok, results := [] }] }) ∧
    (∃ u, exec (.maskset off m1 m2) s = .next u ∧
      (∀ i, i < 32 → (memWord Config.params.glue0 (alone Config.env r 1 u).mem off).getLsbD i =
        if m2.getLsbD i then true else if m1.getLsbD i then false else (s.gbValue Config.env off).getLsbD i) ∧
      SameBytesBut off s (alone Config.env r 1 u) ∧
      (alone Config.env r 1 u).ports[r]? = some { p with responses := p.responses ++ [{ status := .ok, results := [] }] })

/-! ## MSI lines -/

/-- R125 (and R89 for ALLOCB): the rule's checks in its order, and the new line in the lowest empty slot. -/
def Obligations.AllocRule : Prop :=
  ∀ (s : State) (i : Instr) (fn sf : BitVec 8) (virq : Word),
    (i = .alloc fn sf virq ∨ (sf = 0x1F ∧ i = .allocb fn virq)) →
    encode i = [0x10000000 ||| (fn.setWidth 32 <<< 16) ||| (sf.setWidth 32 <<< 8), virq] ∧
    (s.glueInit = false → exec i s = .next (s.raise .notInitialized 0x10)) ∧
    (s.glueInit = true → (7 < fn.toNat ∨ 31 < sf.toNat) →
      exec i s = .next (s.raise .badArgument ((fn.setWidth 32 <<< 24) ||| sf.setWidth 32))) ∧
    ∀ (f : FnId) (sub : SubId), s.glueInit = true → fn.toNat = f.val → sf.toNat = sub.val →
      (sub.val ≤ 30 → Config.params.subfuncCount f ≤ sub.val →
        exec i s = .next (s.raise .badArgument ((fn.setWidth 32 <<< 24) ||| sf.setWidth 32))) ∧
      ((sub.val = 31 ∨ sub.val < Config.params.subfuncCount f) →
        (s.dom[f] ≠ .built → exec i s = .next (s.respond .noDomain [])) ∧
        (s.dom[f] = .built →
          ((∃ k : SlotIx, s.slots[k] = some virq) → exec i s = .next (s.raise .duplicateVirq virq)) ∧
          ((∀ k : SlotIx, s.slots[k] ≠ some virq) →
            ((∃ j : SlotIx, s.slots[j] ≠ none ∧ s.lines[j].f = f ∧
                (s.lines[j].s = sub ∨ s.lines[j].s = 31 ∨ sub = 31)) →
              exec i s = .next (s.raise .hwirqConflict (encHwirq f sub))) ∧
            ((∀ j : SlotIx, s.slots[j] ≠ none → s.lines[j].f = f →
                s.lines[j].s ≠ sub ∧ s.lines[j].s ≠ 31 ∧ sub ≠ 31) →
              ((∃ n, s.mode[f] = .perSub n ∧ (sub = 31 ∨ n.val ≤ sub.val)) ∨ (s.mode[f] = .broadcast ∧ sub ≠ 31) →
                exec i s = .next (s.raise .modeViolation ((fn.setWidth 32 <<< 24) ||| sf.setWidth 32))) ∧
              (((∀ n, s.mode[f] = .perSub n → sub ≠ 31 ∧ sub.val < n.val) ∧ (s.mode[f] = .broadcast → sub = 31)) →
                ((∀ k : SlotIx, s.slots[k] ≠ none) → exec i s = .next (s.respond .allocationTableExhausted [])) ∧
                (∀ k : SlotIx, s.slots[k] = none → (∀ j < k, s.slots[j] ≠ none) →
                  exec i s = .next (State.respond
                    { s with
                      slots := s.slots.set k (some virq)
                      lines := s.lines.set k
                        { f := f, s := sub, virq := virq, mbits := maskBits (Config.params.subfuncCount f) sub,
                          st := .unconfigured, busy := false } }
                    .ok [BitVec.ofNat 32 k.val])))))))

/-- R130, R131: COMPOSE answers the message address and the slot index; with no controller context, the counted default
`virq − 1`, whose correctness no claim may use (I5). -/
def Obligations.ComposeRule : Prop :=
  ∀ (s : State) (virq : Word),
    encode (.compose virq) = [0x11000000, virq] ∧
    (s.glueInit = false → exec (.compose virq) s =
      .next (State.respond { s with diagFallback := s.diagFallback + 1 } .ok [Config.params.msiAddr, virq - 1])) ∧
    (s.glueInit = true → (∀ k : SlotIx, s.slots[k] ≠ some virq) →
      exec (.compose virq) s = .next (s.raise .composeNoSlot virq)) ∧
    ∀ k : SlotIx, s.glueInit = true → HoldsLine s virq k →
      (s.lines[k].busy = true → exec (.compose virq) s = .next (s.raise .reentry virq)) ∧
      (s.lines[k].busy = false →
        exec (.compose virq) s = .next (s.respond .ok [Config.params.msiAddr, BitVec.ofNat 32 k.val]))

/-- R135, R136: WRMSG's checks, its no-op on a zero address, and its seven steps, each one access. -/
def Obligations.WrmsgRule : Prop :=
  ∀ (s : State) (virq addr data : Word) (g : GlueRegs), g = Config.params.regs s.variantLatch →
    encode (.wrmsg virq addr data) = [0x12000000, virq, addr, data] ∧
    (s.glueInit = false → exec (.wrmsg virq addr data) s = .next (s.raise .notInitialized 0x12)) ∧
    (s.glueInit = true → (∀ k : SlotIx, s.slots[k] ≠ some virq) →
      exec (.wrmsg virq addr data) s = .next (s.raise .unknownVirq virq)) ∧
    (∀ k : SlotIx, s.glueInit = true → HoldsLine s virq k →
      (s.lines[k].busy = true → exec (.wrmsg virq addr data) s = .next (s.raise .reentry virq)) ∧
      (s.lines[k].busy = false → addr = 0 → exec (.wrmsg virq addr data) s = .next (s.respond .ok [])) ∧
      (s.lines[k].busy = false → addr ≠ 0 → exec (.wrmsg virq addr data) s =
        .next ((State.gbRead Config.env { s with lines := s.lines.set k { s.lines[k] with busy := true } } g.glueEn).hold
          (.wrmsgS2 k s.lines[k].f s.lines[k].s addr data (s.gbValue Config.env g.glueEn))))) ∧
    ∀ (r : Nat) (k : SlotIx) (f : FnId) (l : SubId) (t : Word), s.turn = .req r →
      (workOf s r = some (.wrmsgS2 k f l addr data t) → step s = .next
        (((s.gbWrite Config.env g.glueEn (t &&& ~~~g.glueEnMask)).hold (.wrmsgS3 k f l addr data)).advance Config.env)) ∧
      (workOf s r = some (.wrmsgS3 k f l addr data) → step s = .next
        (((s.gbWrite Config.env (g.addrReg f) addr).hold (.wrmsgS4 k f l data)).advance Config.env)) ∧
      (workOf s r = some (.wrmsgS4 k f l data) → step s = .next
        (((s.gbWrite Config.env (g.dataHiReg f) (g.dataHiVal data)).hold (.wrmsgS5 k f l data)).advance Config.env)) ∧
      (workOf s r = some (.wrmsgS5 k f l data) → step s = .next
        (((s.gbWrite Config.env (g.dataLoReg f l) (g.dataLoVal data)).hold (.wrmsgS6 k)).advance Config.env)) ∧
      (workOf s r = some (.wrmsgS6 k) → step s = .next
        (((s.gbRead Config.env g.glueEn).hold (.wrmsgS7 k (s.gbValue Config.env g.glueEn))).advance Config.env)) ∧
      (workOf s r = some (.wrmsgS7 k t) → ∃ u, step s = .next (u.advance Config.env) ∧
        u = State.respond { (s.gbWrite Config.env g.glueEn (t ||| g.glueEnMask)) with
              lines := s.lines.set k { s.lines[k] with
                st := if s.lines[k].st = .unconfigured then .masked else s.lines[k].st, busy := false } } .ok [])

/-- R135, R136, R75: run with no other agent in between, WRMSG with a non-zero address leaves the address, data-high and
data-low registers as programmed, the glue enable bit set, the line configured and not busy, every other byte of the
window as it was (so every mask register), and one OK. -/
def Obligations.WrmsgAlone : Prop :=
  ∀ (s : State) (r : Nat) (p : Port) (virq addr data : Word) (k : SlotIx) (g : GlueRegs),
    g = Config.params.regs s.variantLatch → s.turn = .req r → s.ports[r]? = some p → p.work = none →
    s.glueInit = true → HoldsLine s virq k → s.lines[k].busy = false → addr ≠ 0 →
    ∃ u t, exec (.wrmsg virq addr data) s = .next u ∧ t = alone Config.env r 6 u ∧
      t.ports[r]? = some { p with responses := p.responses ++ [{ status := .ok, results := [] }] } ∧
      memWord Config.params.glue0 t.mem (g.addrReg s.lines[k].f) = addr ∧
      memWord Config.params.glue0 t.mem (g.dataHiReg s.lines[k].f) = g.dataHiVal data ∧
      memWord Config.params.glue0 t.mem (g.dataLoReg s.lines[k].f s.lines[k].s) = g.dataLoVal data ∧
      memWord Config.params.glue0 t.mem g.glueEn &&& g.glueEnMask = g.glueEnMask ∧
      t.lines = s.lines.set k { s.lines[k] with
        st := if s.lines[k].st = .unconfigured then .masked else s.lines[k].st, busy := false } ∧
      (∀ f : FnId, memWord Config.params.glue0 t.mem (g.maskReg f) = memWord Config.params.glue0 s.mem (g.maskReg f)) ∧
      ∀ a : Nat,
        (∀ o ∈ [g.glueEn, g.addrReg s.lines[k].f, g.dataHiReg s.lines[k].f, g.dataLoReg s.lines[k].f s.lines[k].s],
          a < o.toNat ∨ o.toNat + 4 ≤ a) →
        memByte Config.params.glue0 t.mem a = memByte Config.params.glue0 s.mem a

/-- R140: MASK's checks and its two steps; an Unconfigured line stays so. -/
def Obligations.MaskRule : Prop :=
  ∀ (s : State) (virq : Word) (g : GlueRegs), g = Config.params.regs s.variantLatch →
    encode (.mask virq) = [0x13000000, virq] ∧
    (s.glueInit = false → exec (.mask virq) s = .next (s.raise .notInitialized 0x13)) ∧
    (s.glueInit = true → (∀ k : SlotIx, s.slots[k] ≠ some virq) →
      exec (.mask virq) s = .next (s.raise .unknownVirq virq)) ∧
    (∀ k : SlotIx, s.glueInit = true → HoldsLine s virq k →
      (s.lines[k].busy = true → exec (.mask virq) s = .next (s.raise .reentry virq)) ∧
      (s.lines[k].busy = false → exec (.mask virq) s =
        .next ((State.gbRead Config.env { s with lines := s.lines.set k { s.lines[k] with busy := true } }
            (g.maskReg s.lines[k].f)).hold
          (.maskS2 k s.lines[k].f s.lines[k].mbits (s.gbValue Config.env (g.maskReg s.lines[k].f)))))) ∧
    ∀ (r : Nat) (k : SlotIx) (f : FnId) (b t : Word), s.turn = .req r → workOf s r = some (.maskS2 k f b t) →
      ∃ u, step s = .next (u.advance Config.env) ∧
        u = State.respond { (s.gbWrite Config.env (g.maskReg f) (t &&& ~~~b)) with
              lines := s.lines.set k { s.lines[k] with
                st := if s.lines[k].st = .unconfigured then .unconfigured else .masked, busy := false } } .ok []

/-- R141: UNMASK's checks, LineState on an Unconfigured line, and its two steps. -/
def Obligations.UnmaskRule : Prop :=
  ∀ (s : State) (virq : Word) (g : GlueRegs), g = Config.params.regs s.variantLatch →
    encode (.unmask virq) = [0x14000000, virq] ∧
    (s.glueInit = false → exec (.unmask virq) s = .next (s.raise .notInitialized 0x14)) ∧
    (s.glueInit = true → (∀ k : SlotIx, s.slots[k] ≠ some virq) →
      exec (.unmask virq) s = .next (s.raise .unknownVirq virq)) ∧
    (∀ k : SlotIx, s.glueInit = true → HoldsLine s virq k →
      (s.lines[k].busy = true → exec (.unmask virq) s = .next (s.raise .reentry virq)) ∧
      (s.lines[k].busy = false → s.lines[k].st = .unconfigured →
        exec (.unmask virq) s = .next (s.raise .lineState virq)) ∧
      (s.lines[k].busy = false → s.lines[k].st ≠ .unconfigured → exec (.unmask virq) s =
        .next ((State.gbRead Config.env { s with lines := s.lines.set k { s.lines[k] with busy := true } }
            (g.maskReg s.lines[k].f)).hold
          (.unmaskS2 k s.lines[k].f s.lines[k].mbits (s.gbValue Config.env (g.maskReg s.lines[k].f)))))) ∧
    ∀ (r : Nat) (k : SlotIx) (f : FnId) (b t : Word), s.turn = .req r → workOf s r = some (.unmaskS2 k f b t) →
      ∃ u, step s = .next (u.advance Config.env) ∧
        u = State.respond { (s.gbWrite Config.env (g.maskReg f) (t ||| b)) with
              lines := s.lines.set k { s.lines[k] with st := .unmasked, busy := false } } .ok []

/-- R140, R141, R75: run with no other agent in between, MASK (and UNMASK of a configured line) leaves the function's mask
register as read with the line's bits clear (set), every other byte alone, the line's new state, and one OK. -/
def Obligations.MaskUnmaskAlone : Prop :=
  ∀ (s : State) (r : Nat) (p : Port) (virq : Word) (k : SlotIx) (m : Word),
    m = (Config.params.regs s.variantLatch).maskReg s.lines[k].f →
    s.turn = .req r → s.ports[r]? = some p → p.work = none → s.glueInit = true → HoldsLine s virq k →
    s.lines[k].busy = false →
    (∃ u t, exec (.mask virq) s = .next u ∧ t = alone Config.env r 1 u ∧
      memWord Config.params.glue0 t.mem m = s.gbValue Config.env m &&& ~~~s.lines[k].mbits ∧ SameBytesBut m s t ∧
      t.lines = s.lines.set k { s.lines[k] with
        st := if s.lines[k].st = .unconfigured then .unconfigured else .masked, busy := false } ∧
      t.ports[r]? = some { p with responses := p.responses ++ [{ status := .ok, results := [] }] }) ∧
    (s.lines[k].st ≠ .unconfigured → ∃ u t, exec (.unmask virq) s = .next u ∧ t = alone Config.env r 1 u ∧
      memWord Config.params.glue0 t.mem m = s.gbValue Config.env m ||| s.lines[k].mbits ∧ SameBytesBut m s t ∧
      t.lines = s.lines.set k { s.lines[k] with st := .unmasked, busy := false } ∧
      t.ports[r]? = some { p with responses := p.responses ++ [{ status := .ok, results := [] }] })

/-- R142, for every configuration and every answer of the environment: with no other agent in between and a plain mask
register, a second MASK leaves the register as the first did, the line's bits clear, an Unconfigured line too; and a second
UNMASK of a configured line leaves it as the first did, the line's bits set. -/
def Obligations.MaskUnmaskIdempotent : Prop :=
  ∀ (e : Env) (s : State) (r : Nat) (p : Port) (virq : Word) (k : SlotIx) (reg : Word),
    reg = (e.par.regs s.variantLatch).maskReg s.lines[k].f →
    s.turn = .req r → s.ports[r]? = some p → p.work = none → s.glueInit = true → HoldsLine s virq k →
    s.lines[k].busy = false → reg ∉ (e.par.regs s.variantLatch).volatileRegs →
    (s.lines[k].st ≠ .unconfigured → ∃ u1 u2, u1 = alone e r 1 (unmaskLine e virq s) ∧ u2 = alone e r 1 (unmaskLine e virq u1) ∧
      memWord e.par.glue0 u2.mem reg = memWord e.par.glue0 u1.mem reg ∧
      memWord e.par.glue0 u1.mem reg &&& s.lines[k].mbits = s.lines[k].mbits ∧
      u2.lines[k].st = .unmasked) ∧
    (∃ m1 m2, m1 = alone e r 1 (maskLine e virq s) ∧ m2 = alone e r 1 (maskLine e virq m1) ∧
      memWord e.par.glue0 m2.mem reg = memWord e.par.glue0 m1.mem reg ∧
      memWord e.par.glue0 m1.mem reg &&& s.lines[k].mbits = 0 ∧
      m2.lines[k].st = if s.lines[k].st = .unconfigured then .unconfigured else .masked)

/-- R150: FREE's checks, LineState on an Unmasked line, and the slot empty again; what is left in the line record is a
free value. -/
def Obligations.FreeRule : Prop :=
  ∀ (s : State) (virq : Word),
    encode (.free virq) = [0x15000000, virq] ∧
    (s.glueInit = false → exec (.free virq) s = .next (s.raise .notInitialized 0x15)) ∧
    (s.glueInit = true → (∀ k : SlotIx, s.slots[k] ≠ some virq) →
      exec (.free virq) s = .next (s.raise .unknownVirq virq)) ∧
    ∀ k : SlotIx, s.glueInit = true → HoldsLine s virq k →
      (s.lines[k].busy = true → exec (.free virq) s = .next (s.raise .reentry virq)) ∧
      (s.lines[k].busy = false → s.lines[k].st = .unmasked → exec (.free virq) s = .next (s.raise .lineState virq)) ∧
      (s.lines[k].busy = false → s.lines[k].st ≠ .unmasked → ∃ free : Line, exec (.free virq) s =
        .next (State.respond { s with slots := s.slots.set k none, lines := s.lines.set k free } .ok []))

/-- R160: ASSIGN's checks in their order and its two grants. -/
def Obligations.AssignRule : Prop :=
  ∀ (s : State) (fn : BitVec 8) (n g : Word),
    encode (.assign fn n g) = [0x16000000 ||| (fn.setWidth 32 <<< 16), n, g] ∧
    (s.glueInit = false → exec (.assign fn n g) s = .next (s.raise .notInitialized 0x16)) ∧
    (s.glueInit = true → 7 < fn.toNat →
      exec (.assign fn n g) s = .next (s.raise .badArgument (fn.setWidth 32 <<< 24))) ∧
    ∀ f : FnId, s.glueInit = true → fn.toNat = f.val →
      ((n = 0 ∨ Config.params.subfuncCount f < n.toNat) →
        exec (.assign fn n g) s = .next (s.raise .badArgument ((fn.setWidth 32 <<< 24) ||| (n &&& 0x00FFFFFF)))) ∧
      (n ≠ 0 → n.toNat ≤ Config.params.subfuncCount f →
        (s.dom[f] ≠ .built → exec (.assign fn n g) s = .next (s.respond .noDomain [])) ∧
        (s.dom[f] = .built →
          ((s.mode[f] ≠ .none ∨ ∃ j : SlotIx, s.slots[j] ≠ none ∧ s.lines[j].f = f) →
            exec (.assign fn n g) s = .next (s.raise .modeViolation ((fn.setWidth 32 <<< 24) ||| n))) ∧
          (s.mode[f] = .none → (∀ j : SlotIx, s.slots[j] ≠ none → s.lines[j].f ≠ f) →
            (g = 0 → exec (.assign fn n g) s = .next (s.respond .grantFailed [])) ∧
            (g ≠ 0 → n ≤ g → ∃ m : Fin 32, m.val = n.toNat ∧ exec (.assign fn n g) s =
              .next (State.respond { s with mode := s.mode.set f (.perSub m), grant := s.grant.set f n } .ok [n])) ∧
            (g ≠ 0 → g < n → exec (.assign fn n g) s =
              .next (State.respond { s with mode := s.mode.set f .broadcast, grant := s.grant.set f g } .ok [g])))))

/-- R161: FREEI's checks and the grant cleared. -/
def Obligations.FreeiRule : Prop :=
  ∀ (s : State) (fn : BitVec 8),
    encode (.freei fn) = [0x17000000 ||| (fn.setWidth 32 <<< 16)] ∧
    (s.glueInit = false → exec (.freei fn) s = .next (s.raise .notInitialized 0x17)) ∧
    (s.glueInit = true → 7 < fn.toNat → exec (.freei fn) s = .next (s.raise .badArgument (fn.setWidth 32 <<< 24))) ∧
    ∀ f : FnId, s.glueInit = true → fn.toNat = f.val →
      ((∃ j : SlotIx, s.slots[j] ≠ none ∧ s.lines[j].f = f) →
        exec (.freei fn) s = .next (s.raise .modeViolation (fn.setWidth 32 <<< 24))) ∧
      ((∀ j : SlotIx, s.slots[j] ≠ none → s.lines[j].f ≠ f) → exec (.freei fn) s =
        .next (State.respond { s with mode := s.mode.set f .none, grant := s.grant.set f 0 } .ok []))

/-! ## Domains -/

/-- R173: DBUILD's checks in their order, and the build by the drawn answers, its `PD` requests recorded (log 15). -/
def Obligations.DbuildRule : Prop :=
  ∀ (s : State) (fn : BitVec 8),
    encode (.dbuild fn) = [0x20000000 ||| (fn.setWidth 32 <<< 16)] ∧
    (s.glueInit = false → exec (.dbuild fn) s = .next (s.raise .notInitialized 0x20)) ∧
    (s.glueInit = true → 7 < fn.toNat → exec (.dbuild fn) s = .next (s.raise .badArgument (fn.setWidth 32 <<< 24))) ∧
    ∀ (f : FnId) (prim : FnId), prim = Config.params.primary → s.glueInit = true → fn.toNat = f.val →
      (s.dom[f] ≠ .unbuilt → exec (.dbuild fn) s =
        .next (s.raise .controlState (0x20000000 ||| BitVec.ofNat 32 f.val))) ∧
      (s.dom[f] = .unbuilt → f ≠ prim → s.dom[prim] ≠ .built →
        exec (.dbuild fn) s = .next (s.respond .domainOrder [])) ∧
      (s.dom[f] = .unbuilt → f = prim → ∃ (par : Parent) (log : List PdRequest),
        par = (if Config.remapPresent s.tick then .remap else .vector) ∧
        log = s.pdLog ++ [.remapLookup Config.params.platformId, .createDomain par f (BitVec.ofNat 32 f.val <<< 8)] ∧
        exec (.dbuild fn) s = .next
          (if Config.createOk s.tick f then
            State.respond { s with dom := s.dom.set f .built, domParent := s.domParent.set f par, pdLog := log } .ok []
          else State.respond { s with pdLog := log } .domainCreationFailed [])) ∧
      (s.dom[f] = .unbuilt → f ≠ prim → s.dom[prim] = .built → ∃ (par : Parent) (log : List PdRequest),
        par = s.domParent[prim] ∧
        log = s.pdLog ++ [.createDomain par f (BitVec.ofNat 32 f.val <<< 8)] ∧
        exec (.dbuild fn) s = .next
          (if Config.createOk s.tick f then
            State.respond { s with dom := s.dom.set f .built, domParent := s.domParent.set f par, pdLog := log } .ok []
          else State.respond { s with dom := s.dom.set f .failed, pdLog := log } .secondaryDomainFailed []))

/-- R174: DBUILDALL's checks; with a failed primary nothing is built; else each function is Built or Failed by its drawn
answer, all Built ones under one parent, and the response's mask has exactly the failed secondaries' bits. -/
def Obligations.DbuildallRule : Prop :=
  ∀ s : State,
    encode .dbuildall = [0x21000000] ∧
    (s.glueInit = false → exec .dbuildall s = .next (s.raise .notInitialized 0x21)) ∧
    (∀ f : FnId, s.glueInit = true → s.dom[f] ≠ .unbuilt → (∀ j < f, s.dom[j] = .unbuilt) →
      exec .dbuildall s = .next (s.raise .controlState (0x21000000 ||| BitVec.ofNat 32 f.val))) ∧
    (s.glueInit = true → (∀ f : FnId, s.dom[f] = .unbuilt) →
      ∃ t, exec .dbuildall s = .next t ∧
        t = { s with dom := t.dom, domParent := t.domParent, pdLog := t.pdLog, ports := t.ports } ∧
        (if Config.createOk s.tick Config.params.primary then
          (∀ f : FnId, t.dom[f] = (if Config.createOk s.tick f then .built else .failed)) ∧
          (∀ f : FnId, t.domParent[f] =
            (if Config.createOk s.tick f then (if Config.remapPresent s.tick then .remap else .vector)
              else s.domParent[f])) ∧
          ∃ fm : Word, t.ports = (s.respond .ok [fm]).ports ∧
            (∀ f : FnId, fm.getLsbD f.val = !Config.createOk s.tick f) ∧ ∀ i, 8 ≤ i → fm.getLsbD i = false
        else
          t.dom = s.dom ∧ t.domParent = s.domParent ∧ t.ports = (s.respond .domainCreationFailed []).ports))

/-- R175: DTEAR's checks, and every domain and grant cleared. -/
def Obligations.DtearRule : Prop :=
  ∀ s : State,
    encode .dtear = [0x22000000] ∧
    (s.glueInit = false → exec .dtear s = .next (s.raise .notInitialized 0x22)) ∧
    (s.glueInit = true → (∃ i : SlotIx, s.slots[i] ≠ none) →
      exec .dtear s = .next (s.raise .controlState 0x22000000)) ∧
    (s.glueInit = true → (∀ i : SlotIx, s.slots[i] = none) →
      ∃ t, exec .dtear s = .next t ∧
        t = { s with dom := t.dom, domParent := t.domParent, mode := t.mode, grant := t.grant, pdLog := t.pdLog,
                     ports := (s.respond .ok []).ports } ∧
        ∀ f : FnId, t.dom[f] = .unbuilt ∧ t.domParent[f] = .none ∧ t.mode[f] = .none ∧ t.grant[f] = 0)

/-- R176, R170: DLOOKUP answers the virq of the live line of (f, s) when the domain is Built, else found = 0; no state
changes but the response. -/
def Obligations.DlookupRule : Prop :=
  ∀ (s : State) (fn sf : BitVec 8),
    encode (.dlookup fn sf) = [0x23000000 ||| (fn.setWidth 32 <<< 16) ||| (sf.setWidth 32 <<< 8)] ∧
    (s.glueInit = false → exec (.dlookup fn sf) s = .next (s.raise .notInitialized 0x23)) ∧
    (s.glueInit = true → (7 < fn.toNat ∨ 31 < sf.toNat) →
      exec (.dlookup fn sf) s = .next (s.raise .badArgument ((fn.setWidth 32 <<< 24) ||| sf.setWidth 32))) ∧
    ∀ (f : FnId) (sub : SubId), s.glueInit = true → fn.toNat = f.val → sf.toNat = sub.val →
      ((s.dom[f] ≠ .built ∨ ∀ i : SlotIx, s.slots[i] ≠ none → ¬ (s.lines[i].f = f ∧ s.lines[i].s = sub)) →
        exec (.dlookup fn sf) s = .next (s.respond .ok [0, 0])) ∧
      (∀ i : SlotIx, s.dom[f] = .built → s.slots[i] ≠ none → s.lines[i].f = f → s.lines[i].s = sub →
        (∀ j : SlotIx, s.slots[j] ≠ none → s.lines[j].f = f → s.lines[j].s = sub → j = i) →
        exec (.dlookup fn sf) s = .next (s.respond .ok [1, s.lines[i].virq]))

/-! ## Glue control and edge events -/

/-- R210, R211: GINIT and GDEINIT, their checks and effects; what GDEINIT leaves in the latch and the window index is a
free value. -/
def Obligations.GlueControlRule : Prop :=
  ∀ s : State,
    encode .ginit = [0x30000000] ∧ encode .gdeinit = [0x31000000] ∧
    (s.glueInit = true → exec .ginit s = .next (s.raise .controlState 0x30000000)) ∧
    (s.glueInit = false → exec .ginit s = .next (State.respond
      { s with glueInit := true, variantLatch := Config.params.strap,
               glueWin := Config.params.winIndex Config.params.strap } .ok [])) ∧
    (s.glueInit = false → exec .gdeinit s = .next (s.raise .notInitialized 0x31)) ∧
    (∀ f : FnId, s.glueInit = true → s.dom[f] ≠ .unbuilt → (∀ j < f, s.dom[j] = .unbuilt) →
      exec .gdeinit s = .next (s.raise .controlState (0x31000000 ||| BitVec.ofNat 32 f.val))) ∧
    (s.glueInit = true → (∀ f : FnId, s.dom[f] = .unbuilt) → ∃ (v : Variant) (w : Fin 3), exec .gdeinit s =
      .next (State.respond { s with glueInit := false, variantLatch := v, glueWin := w } .ok []))

/-- R212, R213: SUSPEND and RESUME in any state answer OK and change nothing but the response. -/
def Obligations.SuspendResumeRule : Prop :=
  ∀ s : State, encode .suspend = [0x32000000] ∧ encode .resume = [0x33000000] ∧
    exec .suspend s = .next (s.respond .ok []) ∧ exec .resume s = .next (s.respond .ok [])

/-- R192, R193: an invalid event is counted and dropped; on an initialised variant B a group function's event sets the
group's pending bit; every other event joins the default set. -/
def Obligations.EdgeRule : Prop :=
  ∀ (s : State) (h : Word),
    (decHwirq h = none → exec (.edge h) s = .next { s with diagSpurious := s.diagSpurious + 1 }) ∧
    ∀ (f : FnId) (l : SubId), decHwirq h = some (f, l) →
      (∀ g : Group, s.glueInit = true → s.variantLatch = .B → f = Config.params.funcOf g →
        exec (.edge h) s = .next { s with ependG := s.ependG.set g true }) ∧
      ((s.glueInit = false ∨ s.variantLatch = .A ∨ ∀ g : Group, f ≠ Config.params.funcOf g) →
        ∃ hs, exec (.edge h) s = .next { s with ependH := hs } ∧ ∀ x, x ∈ hs ↔ x = h ∨ x ∈ s.ependH)

/-- R194, R195, R196: a demux agent's steps T1 to T4; an agent whose edge is not pending or whose lock is held does not
move; and in every state that meets the demultiplexer's invariants only the holder's T4 lifts the hold. T4's masks and
shifts are R191's table, whose `USB_SHIFT` is 0x10 (log 35 on how R8 lists it); that the Locked phase says
which of T2 to T4 is next, and keeps the value read, is log 18. -/
def Obligations.LockProtocol : Prop :=
  (∀ (s : State) (g : Group), s.turn = .dmx g →
    ((s.dmx.get g).phase = .idle → s.ependG.get g = true → s.ackLock = .free →
      step s = .next ((State.setDmx { s with ependG := s.ependG.set g false, ackLock := .held g } g
        { phase := .locked .t2, pendLeft := (s.dmx.get g).pendLeft }).advance Config.env)) ∧
    ((s.dmx.get g).phase = .idle → (s.ependG.get g = false ∨ s.ackLock ≠ .free) →
      step s = .next (s.advance Config.env)) ∧
    ((s.dmx.get g).phase = .locked .t2 →
      step s = .next (((s.gbWrite Config.env (Config.params.regs s.variantLatch).ackWr
          ((Config.params.regs s.variantLatch).ackCode g)).setDmx g
        { phase := .locked .t3, pendLeft := (s.dmx.get g).pendLeft }).advance Config.env)) ∧
    ((s.dmx.get g).phase = .locked .t3 →
      step s = .next (((s.gbRead Config.env (Config.params.regs s.variantLatch).ackRd).setDmx g
        { phase := .locked (.t4 (Config.ackValue s.tick)), pendLeft := (s.dmx.get g).pendLeft }).advance Config.env)) ∧
    (∀ a : Word, (s.dmx.get g).phase = .locked (.t4 a) → ∃ (m pend : Word) (sh : Nat),
      (m, sh) = (match g with
        | .glue => (0xFFFFFFFF#32, 0)
        | .usb => (0x00000007#32, 0x10)
        | .dma => (0x00000003#32, 0)) ∧
      (∀ i, i < 32 → (pend.getLsbD i = true ↔
        m.getLsbD i = true ∧ (sh + i < 32 → a.getLsbD (sh + i) = false))) ∧
      step s = .next ((State.setDmx { s with ackLock := .free } g
        { phase := if pend = 0 then .idle else .dispatching, pendLeft := pend }).advance Config.env))) ∧
  ∀ (s t : State) (g : Group), DemuxInv s → s.ackLock = .held g → step s = .next t → s.turn ≠ .env .create →
    t.ackLock ≠ .held g → s.turn = .dmx g ∧ t.ackLock = .free ∧ ∃ a, (s.dmx.get g).phase = .locked (.t4 a)

/-- R197, R198, R201: a dispatching agent handles one set bit i, clears just that bit, and ends the run with the last; the
bit's line is dispatched, else with `route` the live broadcast line when i is below the function's count, else it is
counted as skipped. So a run has at most 32 such steps (R262). The broadcast line is found by the lookup, which also asks
for a Built domain where R201 asks only for a live line: the model's reading, log 19. -/
def Obligations.DispatchBit : Prop :=
  ∀ (s : State) (g : Group), s.turn = .dmx g → (s.dmx.get g).phase = .dispatching → (s.dmx.get g).pendLeft ≠ 0 →
    ∃ (i : Nat) (t : State) (f : FnId) (h : Word) (out : List DispatchRec),
      i < 32 ∧ (s.dmx.get g).pendLeft.getLsbD i = true ∧ step s = .next (t.advance Config.env) ∧
      f = Config.params.funcOf g ∧ h = (BitVec.ofNat 32 f.val <<< 8) ||| BitVec.ofNat 32 i ∧
      out = (match s.lookup f h with
        | some v => [{ virq := v, hwirq := h }]
        | none =>
          match Config.params.broadcastDemux, s.lookup f (encHwirq f 31) with
          | .route, some vb =>
            if i < Config.params.subfuncCount f then [{ virq := vb, hwirq := encHwirq f 31 }] else []
          | _, _ => []) ∧
      t = { s with dlog := s.dlog ++ out, diagSkip := if out = [] then s.diagSkip + 1 else s.diagSkip, dmx := t.dmx } ∧
      (∀ g' : Group, g' ≠ g → t.dmx.get g' = s.dmx.get g') ∧
      (∀ j, j < 32 → (t.dmx.get g).pendLeft.getLsbD j = ((s.dmx.get g).pendLeft.getLsbD j && decide (j ≠ i))) ∧
      (setBits (t.dmx.get g).pendLeft).length + 1 = (setBits (s.dmx.get g).pendLeft).length ∧
      (t.dmx.get g).phase = if (t.dmx.get g).pendLeft = 0 then .idle else .dispatching

/-- R199: the default agent takes one pending hwirq; its line is dispatched, else it is counted and dropped. With nothing
pending it does not move. -/
def Obligations.DefaultStep : Prop :=
  ∀ s : State, s.turn = .dflt →
    (s.ependH = [] → step s = .next (s.advance Config.env)) ∧
    (s.ependH ≠ [] → (∀ x ∈ s.ependH, (decHwirq x).isSome = true) →
      ∃ (h : Word) (hs : List Word) (f : FnId), h ∈ s.ependH ∧ (h.extractLsb' 8 8).toNat = f.val ∧
        (∀ x, x ∈ hs ↔ x ∈ s.ependH ∧ x ≠ h) ∧
        step s = .next (State.advance Config.env (match s.lookup f h with
          | some v => { s with ependH := hs, dlog := s.dlog ++ [{ virq := v, hwirq := h }] }
          | none => { s with ependH := hs, diagSpurious := s.diagSpurious + 1 })))

/-! ## Faults, errors, responses -/

/-- R226, R224, R220, R86: raising a fault records the first one's code and info, counts it up to 0xFFFFFFFF, and answers
with its code and no result words; the code of every status; and a response's words: the status in bits 7:0 of word 0 with
zeros above it, then the result words. -/
def Obligations.RaiseRecordsFault : Prop :=
  (∀ (s : State) (r : Nat) (p : Port) (f : Status) (info : Word), s.turn = .req r → s.ports[r]? = some p →
    (s.raise f info).fltCode = (if s.fltCode = 0 then f.code else s.fltCode) ∧
    (s.raise f info).fltInfo = (if s.fltCode = 0 then info else s.fltInfo) ∧
    (s.raise f info).fltCount.toNat = min (s.fltCount.toNat + 1) 0xFFFFFFFF ∧
    (s.raise f info).ports[r]? =
      some { p with work := none, responses := p.responses ++ [{ status := f, results := [] }] } ∧
    (∀ r' : Nat, r' ≠ r → (s.raise f info).ports[r']? = s.ports[r']?) ∧
    { s.raise f info with fltCode := s.fltCode, fltInfo := s.fltInfo, fltCount := s.fltCount, ports := s.ports } = s) ∧
  (([.illegalCommand, .badOffset, .notInitialized, .badArgument, .duplicateVirq, .hwirqConflict, .unknownVirq,
      .lineState, .reentry, .controlState, .composeNoSlot, .modeViolation] : List Status).map Status.code =
    [0x80, 0x81, 0x82, 0x83, 0x84, 0x85, 0x86, 0x87, 0x88, 0x89, 0x8A, 0x8B]) ∧
  (([.ok, .resourceBusy, .domainCreationFailed, .secondaryDomainFailed, .allocationTableExhausted, .mappingFailed,
      .domainOrder, .noDomain, .grantFailed] : List Status).map Status.code =
    [0x00, 0x01, 0x02, 0x03, 0x04, 0x05, 0x06, 0x07, 0x08]) ∧
  (∀ a : Response, ∃ w : Word, a.toWords = w :: a.results ∧ w.extractLsb' 0 8 = a.status.code ∧
    w.extractLsb' 8 24 = 0)

/-- R223, R225: a command that ends with a fault changes nothing but the fault record and its response; one that ends
with an error changes nothing but its response, except that SecondaryDomainFailed leaves one domain Failed. Neither makes
a glue access. The record of `PD` requests is the model's own (log 15). -/
def Obligations.FailedCommandsChangeNothing : Prop :=
  ∀ (s t : State) (i : Instr) (r : Nat) (p q : Port) (a : Response), s.turn = .req r → s.ports[r]? = some p →
    exec i s = .next t → t.ports[r]? = some q → q.responses = p.responses ++ [a] →
    (a.status.isFault = true →
      { t with ports := s.ports, fltCode := s.fltCode, fltInfo := s.fltInfo, fltCount := s.fltCount } = s) ∧
    (a.status.isError = true → a.status ≠ .secondaryDomainFailed →
      { t with ports := s.ports, pdLog := s.pdLog } = s) ∧
    (a.status = .secondaryDomainFailed → ∃ f : FnId, s.dom[f] = .unbuilt ∧
      { t with ports := s.ports, pdLog := s.pdLog } = { s with dom := s.dom.set f .failed })

/-- R86: a command's first step either answers once or leaves the command in progress, on its own port alone; and so does
each later step of a command in progress. An answer that is not OK has no result words. -/
def Obligations.OneResponsePerCommand : Prop :=
  ∀ (s t : State) (r : Nat) (p : Port), s.turn = .req r → s.ports[r]? = some p →
    ((∃ i, (∀ h, i ≠ .edge h) ∧ exec i s = .next t) ∨ (∃ w, p.work = some w ∧ t = resumeWork Config.env w s)) →
    (∀ r' : Nat, r' ≠ r → t.ports[r']? = s.ports[r']?) ∧
    ((∃ w, t.ports[r]? = some { p with work := some w }) ∨
     (∃ a, (a.status ≠ .ok → a.results = []) ∧
       t.ports[r]? = some { p with work := none, responses := p.responses ++ [a] }))

/-- R220: the block never produces the statuses reserved for ResourceBusy and MappingFailed. -/
def Obligations.StatusesNeverProduced : Prop :=
  ∀ s t : State, StatusInv s → step s = .next t → StatusInv t

/-- R39, R226: nothing clears or overwrites the fault record but the creation of the instance, and the count never
falls. -/
def Obligations.FaultRecordSticky : Prop :=
  ∀ s t : State, step s = .next t → s.turn ≠ .env .create →
    (s.fltCode ≠ 0 → t.fltCode = s.fltCode ∧ t.fltInfo = s.fltInfo) ∧ s.fltCount ≤ t.fltCount

/-! ## Frames -/

/-- R100: the register access commands change nothing but the glue window, the fault record and their port (and the
model's record of `GB`), in their first step; WR32 stores four bytes at its offset, the others store nothing yet. -/
def Obligations.RalFrame : Prop :=
  ∀ (s t : State) (off a b : Word),
    (exec (.rd32 off) s = .next t ∨ exec (.setm off a) s = .next t ∨ exec (.clrm off a) s = .next t ∨
      exec (.maskset off a b) s = .next t →
      t = { s with ports := t.ports, gbLog := t.gbLog, fltCode := t.fltCode, fltInfo := t.fltInfo,
                   fltCount := t.fltCount }) ∧
    (exec (.wr32 off a) s = .next t →
      t = { s with ports := t.ports, gbLog := t.gbLog, fltCode := t.fltCode, fltInfo := t.fltInfo,
                   fltCount := t.fltCount, mem := t.mem } ∧ SameBytesBut off s t)

/-- R31, R125, R130, R135, R140, R141, R150: the first steps of the line commands store no glue register; COMPOSE, WRMSG,
MASK and UNMASK leave the table, and in the line records change at most the busy bit of the line the virq names; ALLOC and
ALLOCB change at most the lowest empty slot and its record, FREE at most the slot that holds its virq and its record, and
the three make no glue access. -/
def Obligations.LineCommandsFrame : Prop :=
  ∀ (s t : State) (v a d : Word) (fn sf : BitVec 8),
    (exec (.compose v) s = .next t →
      t = { s with ports := t.ports, diagFallback := t.diagFallback, fltCode := t.fltCode, fltInfo := t.fltInfo,
                   fltCount := t.fltCount }) ∧
    (exec (.wrmsg v a d) s = .next t ∨ exec (.mask v) s = .next t ∨ exec (.unmask v) s = .next t →
      t = { s with ports := t.ports, lines := t.lines, gbLog := t.gbLog, fltCode := t.fltCode, fltInfo := t.fltInfo,
                   fltCount := t.fltCount } ∧
      ∀ j : SlotIx, t.lines[j] = { s.lines[j] with busy := t.lines[j].busy } ∧
        (s.slots[j] ≠ some v → t.lines[j] = s.lines[j])) ∧
    (exec (.alloc fn sf v) s = .next t ∨ exec (.allocb fn v) s = .next t →
      t = { s with ports := t.ports, slots := t.slots, lines := t.lines, fltCode := t.fltCode, fltInfo := t.fltInfo,
                   fltCount := t.fltCount } ∧
      ∀ j : SlotIx, s.firstEmpty ≠ some j → t.slots[j] = s.slots[j] ∧ t.lines[j] = s.lines[j]) ∧
    (exec (.free v) s = .next t →
      t = { s with ports := t.ports, slots := t.slots, lines := t.lines, fltCode := t.fltCode, fltInfo := t.fltInfo,
                   fltCount := t.fltCount } ∧
      ∀ j : SlotIx, s.findLine v ≠ some j → t.slots[j] = s.slots[j] ∧ t.lines[j] = s.lines[j])

/-- R160, R161, R173–R176: ASSIGN and FREEI change the mode and grant of their function alone; the domain commands change
no line, no slot and no byte of the window; DLOOKUP changes nothing. -/
def Obligations.GrantDomainFrame : Prop :=
  ∀ (s t : State) (fn sf : BitVec 8) (n g : Word),
    (exec (.assign fn n g) s = .next t ∨ exec (.freei fn) s = .next t →
      t = { s with ports := t.ports, mode := t.mode, grant := t.grant, fltCode := t.fltCode, fltInfo := t.fltInfo,
                   fltCount := t.fltCount } ∧
      ∀ f : FnId, f.val ≠ fn.toNat → t.mode[f] = s.mode[f] ∧ t.grant[f] = s.grant[f]) ∧
    (exec (.dbuild fn) s = .next t →
      t = { s with ports := t.ports, dom := t.dom, domParent := t.domParent, pdLog := t.pdLog, fltCode := t.fltCode,
                   fltInfo := t.fltInfo, fltCount := t.fltCount } ∧
      ∀ f : FnId, f.val ≠ fn.toNat → t.dom[f] = s.dom[f] ∧ t.domParent[f] = s.domParent[f]) ∧
    (exec .dbuildall s = .next t →
      t = { s with ports := t.ports, dom := t.dom, domParent := t.domParent, pdLog := t.pdLog, fltCode := t.fltCode,
                   fltInfo := t.fltInfo, fltCount := t.fltCount }) ∧
    (exec .dtear s = .next t →
      t = { s with ports := t.ports, dom := t.dom, domParent := t.domParent, mode := t.mode, grant := t.grant,
                   pdLog := t.pdLog, fltCode := t.fltCode, fltInfo := t.fltInfo, fltCount := t.fltCount }) ∧
    (exec (.dlookup fn sf) s = .next t →
      t = { s with ports := t.ports, fltCode := t.fltCode, fltInfo := t.fltInfo, fltCount := t.fltCount })

/-- R210–R213, R192, R193: the glue control commands change the init bit, the latch and the window index alone (SUSPEND and
RESUME nothing); an event changes the pending edges and the spurious count alone, of the groups only its own. -/
def Obligations.ControlEdgeFrame : Prop :=
  ∀ (s t : State) (h : Word),
    (exec .ginit s = .next t ∨ exec .gdeinit s = .next t →
      t = { s with ports := t.ports, glueInit := t.glueInit, variantLatch := t.variantLatch, glueWin := t.glueWin,
                   fltCode := t.fltCode, fltInfo := t.fltInfo, fltCount := t.fltCount }) ∧
    (exec .suspend s = .next t ∨ exec .resume s = .next t → t = { s with ports := t.ports }) ∧
    (exec (.edge h) s = .next t →
      t = { s with ependG := t.ependG, ependH := t.ependH, diagSpurious := t.diagSpurious } ∧
      ∀ g : Group, h.extractLsb' 8 8 ≠ BitVec.ofNat 8 (Config.params.funcOf g).val → t.ependG.get g = s.ependG.get g)

/-- R103–R105, R135, R140, R141, R194–R199, R202: what the later steps of a command, and the demux and default agents'
steps, leave alone: a command's step stores only the register it names and changes only the state and busy bit of its own
line; the demux agents never touch the table, a line, a domain or a mask register, and store only ACK_WR_REG, in T2. -/
def Obligations.AgentStepsFrame : Prop :=
  ∀ (s : State) (w : Work) (g : Group),
    (∃ t, t = resumeWork Config.env w s ∧
      t = { s with ports := t.ports, lines := t.lines, mem := t.mem, gbLog := t.gbLog } ∧
      (∀ j : SlotIx, t.lines[j] = { s.lines[j] with st := t.lines[j].st, busy := t.lines[j].busy } ∧
        (workLine w ≠ some j → t.lines[j] = s.lines[j])) ∧
      (workStore (Config.params.regs s.variantLatch) w = none → t.mem = s.mem) ∧
      (∀ o, workStore (Config.params.regs s.variantLatch) w = some o → SameBytesBut o s t)) ∧
    (∃ t, t = stepDemux Config.env g s ∧
      t = { s with ackLock := t.ackLock, ependG := t.ependG, dmx := t.dmx, dlog := t.dlog, diagSkip := t.diagSkip,
                   mem := t.mem, gbLog := t.gbLog } ∧
      (∀ g' : Group, g' ≠ g → t.ependG.get g' = s.ependG.get g' ∧ t.dmx.get g' = s.dmx.get g') ∧
      ((s.dmx.get g).phase ≠ .locked .t2 → t.mem = s.mem) ∧
      SameBytesBut (Config.params.regs s.variantLatch).ackWr s t) ∧
    (∃ t, t = stepDefault Config.env s ∧
      t = { s with ependH := t.ependH, dlog := t.dlog, diagSpurious := t.diagSpurious })

/-! ## Invariants -/

/-- Every step keeps the glue window in its canonical form. That form, a rising list of the bytes that differ from the
launch contents, is the model's own representation of the window of R64–R66: log 4. -/
def Obligations.StepKeepsMemoryCanonical : Prop :=
  ∀ s t : State, Memory.wf s.mem = true → step s = .next t → Memory.wf t.mem = true

/-- R32: every step keeps the table invariants. -/
def Obligations.StepKeepsTable : Prop :=
  ∀ s t : State, TableInv s → step s = .next t → TableInv t

/-- R34, R160, R162: every step keeps the grant invariants. -/
def Obligations.StepKeepsGrants : Prop :=
  ∀ s t : State, GrantInv s → step s = .next t → GrantInv t

/-- R171, R177, R33: every step keeps the domain invariants. -/
def Obligations.StepKeepsDomains : Prop :=
  ∀ s t : State, DomainInv s → step s = .next t → DomainInv t

/-- R35–R37, R194–R198, R256: every step keeps the demultiplexer's invariants, so no two agents are between T1 and T4. That
`EPEND_H`, which R36 calls a set, is a rising list is the model's choice (log 33), and so is the agent's place between T1
and T4 (log 18). -/
def Obligations.StepKeepsDemux : Prop :=
  ∀ s t : State, DemuxInv s → step s = .next t →
    DemuxInv t ∧ ∀ (g g' : Group) (k k' : LockStep), (t.dmx.get g).phase = .locked k →
      (t.dmx.get g').phase = .locked k' → g = g'

/-- R27, R200: every step keeps the latched variant, and keeps the demultiplexer quiet on variant A. -/
def Obligations.StepKeepsVariant : Prop :=
  ∀ s t : State, VariantInv s → step s = .next t → VariantInv t

/-- R8, R22, R30, R258: every step keeps the NUM_REQ ports, and the busy bits and the commands in progress in agreement. -/
def Obligations.StepKeepsBusy : Prop :=
  ∀ s t : State, BusyInv s → step s = .next t → BusyInv t

/-- R43, R32: the reset state meets every invariant, and is complete and good (R262). -/
def Obligations.InvariantsHoldAtReset : Prop :=
  Memory.wf State.reset.mem = true ∧ TableInv State.reset ∧ GrantInv State.reset ∧ DomainInv State.reset ∧
  DemuxInv State.reset ∧ VariantInv State.reset ∧ BusyInv State.reset ∧ StatusInv State.reset ∧
  isGood State.reset = true

/-- R26, R29, R33, R34, R35: which commands write which state: but for the creation of the instance, only GINIT and
GDEINIT change the init bit, only ALLOC, ALLOCB and FREE the slots, only the domain builder the domains, only ASSIGN, FREEI
and DTEAR the modes and grants, and only a demux agent the lock. R34 names only ASSIGN and FREEI as writers of MODE and
GRANT; that DTEAR clears them too follows R175: log 32. -/
def Obligations.WhoWritesWhat : Prop :=
  ∀ s t : State, step s = .next t → s.turn ≠ .env .create →
    (t.glueInit ≠ s.glueInit → ∃ r i, RunsFrom s r i ∧ (i = .ginit ∨ i = .gdeinit)) ∧
    (t.slots ≠ s.slots → ∃ r i, RunsFrom s r i ∧
      ((∃ fn sf v, i = .alloc fn sf v) ∨ (∃ fn v, i = .allocb fn v) ∨ ∃ v, i = .free v)) ∧
    (t.dom ≠ s.dom ∨ t.domParent ≠ s.domParent → ∃ r i, RunsFrom s r i ∧
      ((∃ fn, i = .dbuild fn) ∨ i = .dbuildall ∨ i = .dtear)) ∧
    (t.mode ≠ s.mode ∨ t.grant ≠ s.grant → ∃ r i, RunsFrom s r i ∧
      ((∃ fn n g, i = .assign fn n g) ∨ (∃ fn, i = .freei fn) ∨ i = .dtear)) ∧
    (t.ackLock ≠ s.ackLock → ∃ g, s.turn = .dmx g)

end
end

