-- ==== Sys2Proof/Laws/State.lean ====
section
/-! SUPPORT. One lemma per field per update of the state, each true by `rfl`: no later proof unfolds an update. -/

namespace Sys2Proof.Machine

/-! ## `State.onPort` -/

@[simp] theorem State.onPort_glueInit (s : State) (r : Nat) (g : Port → Port) :
    (s.onPort r g).glueInit = s.glueInit := rfl
@[simp] theorem State.onPort_variantLatch (s : State) (r : Nat) (g : Port → Port) :
    (s.onPort r g).variantLatch = s.variantLatch := rfl
@[simp] theorem State.onPort_glueWin (s : State) (r : Nat) (g : Port → Port) :
    (s.onPort r g).glueWin = s.glueWin := rfl
@[simp] theorem State.onPort_slots (s : State) (r : Nat) (g : Port → Port) : (s.onPort r g).slots = s.slots := rfl
@[simp] theorem State.onPort_lines (s : State) (r : Nat) (g : Port → Port) : (s.onPort r g).lines = s.lines := rfl
@[simp] theorem State.onPort_dom (s : State) (r : Nat) (g : Port → Port) : (s.onPort r g).dom = s.dom := rfl
@[simp] theorem State.onPort_domParent (s : State) (r : Nat) (g : Port → Port) :
    (s.onPort r g).domParent = s.domParent := rfl
@[simp] theorem State.onPort_mode (s : State) (r : Nat) (g : Port → Port) : (s.onPort r g).mode = s.mode := rfl
@[simp] theorem State.onPort_grant (s : State) (r : Nat) (g : Port → Port) : (s.onPort r g).grant = s.grant := rfl
@[simp] theorem State.onPort_ackLock (s : State) (r : Nat) (g : Port → Port) :
    (s.onPort r g).ackLock = s.ackLock := rfl
@[simp] theorem State.onPort_ependG (s : State) (r : Nat) (g : Port → Port) : (s.onPort r g).ependG = s.ependG := rfl
@[simp] theorem State.onPort_ependH (s : State) (r : Nat) (g : Port → Port) : (s.onPort r g).ependH = s.ependH := rfl
@[simp] theorem State.onPort_dmx (s : State) (r : Nat) (g : Port → Port) : (s.onPort r g).dmx = s.dmx := rfl
@[simp] theorem State.onPort_ports (s : State) (r : Nat) (g : Port → Port) :
    (s.onPort r g).ports = s.ports.modify r g := rfl
@[simp] theorem State.onPort_fltCode (s : State) (r : Nat) (g : Port → Port) :
    (s.onPort r g).fltCode = s.fltCode := rfl
@[simp] theorem State.onPort_fltInfo (s : State) (r : Nat) (g : Port → Port) :
    (s.onPort r g).fltInfo = s.fltInfo := rfl
@[simp] theorem State.onPort_fltCount (s : State) (r : Nat) (g : Port → Port) :
    (s.onPort r g).fltCount = s.fltCount := rfl
@[simp] theorem State.onPort_diagFallback (s : State) (r : Nat) (g : Port → Port) :
    (s.onPort r g).diagFallback = s.diagFallback := rfl
@[simp] theorem State.onPort_diagSkip (s : State) (r : Nat) (g : Port → Port) :
    (s.onPort r g).diagSkip = s.diagSkip := rfl
@[simp] theorem State.onPort_diagSpurious (s : State) (r : Nat) (g : Port → Port) :
    (s.onPort r g).diagSpurious = s.diagSpurious := rfl
@[simp] theorem State.onPort_dlog (s : State) (r : Nat) (g : Port → Port) : (s.onPort r g).dlog = s.dlog := rfl
@[simp] theorem State.onPort_mem (s : State) (r : Nat) (g : Port → Port) : (s.onPort r g).mem = s.mem := rfl
@[simp] theorem State.onPort_gbLog (s : State) (r : Nat) (g : Port → Port) : (s.onPort r g).gbLog = s.gbLog := rfl
@[simp] theorem State.onPort_pdLog (s : State) (r : Nat) (g : Port → Port) : (s.onPort r g).pdLog = s.pdLog := rfl
@[simp] theorem State.onPort_turn (s : State) (r : Nat) (g : Port → Port) : (s.onPort r g).turn = s.turn := rfl
@[simp] theorem State.onPort_tick (s : State) (r : Nat) (g : Port → Port) : (s.onPort r g).tick = s.tick := rfl

/-! ## `State.respond` -/

@[simp] theorem State.respond_glueInit (s : State) (st : Status) (rs : List Word) :
    (s.respond st rs).glueInit = s.glueInit := rfl
@[simp] theorem State.respond_variantLatch (s : State) (st : Status) (rs : List Word) :
    (s.respond st rs).variantLatch = s.variantLatch := rfl
@[simp] theorem State.respond_glueWin (s : State) (st : Status) (rs : List Word) :
    (s.respond st rs).glueWin = s.glueWin := rfl
@[simp] theorem State.respond_slots (s : State) (st : Status) (rs : List Word) :
    (s.respond st rs).slots = s.slots := rfl
@[simp] theorem State.respond_lines (s : State) (st : Status) (rs : List Word) :
    (s.respond st rs).lines = s.lines := rfl
@[simp] theorem State.respond_dom (s : State) (st : Status) (rs : List Word) : (s.respond st rs).dom = s.dom := rfl
@[simp] theorem State.respond_domParent (s : State) (st : Status) (rs : List Word) :
    (s.respond st rs).domParent = s.domParent := rfl
@[simp] theorem State.respond_mode (s : State) (st : Status) (rs : List Word) : (s.respond st rs).mode = s.mode := rfl
@[simp] theorem State.respond_grant (s : State) (st : Status) (rs : List Word) :
    (s.respond st rs).grant = s.grant := rfl
@[simp] theorem State.respond_ackLock (s : State) (st : Status) (rs : List Word) :
    (s.respond st rs).ackLock = s.ackLock := rfl
@[simp] theorem State.respond_ependG (s : State) (st : Status) (rs : List Word) :
    (s.respond st rs).ependG = s.ependG := rfl
@[simp] theorem State.respond_ependH (s : State) (st : Status) (rs : List Word) :
    (s.respond st rs).ependH = s.ependH := rfl
@[simp] theorem State.respond_dmx (s : State) (st : Status) (rs : List Word) : (s.respond st rs).dmx = s.dmx := rfl
@[simp] theorem State.respond_ports (s : State) (st : Status) (rs : List Word) :
    (s.respond st rs).ports = s.ports.modify s.issuer fun p =>
      { p with work := none, responses := p.responses ++ [{ status := st, results := rs }] } := rfl
@[simp] theorem State.respond_fltCode (s : State) (st : Status) (rs : List Word) :
    (s.respond st rs).fltCode = s.fltCode := rfl
@[simp] theorem State.respond_fltInfo (s : State) (st : Status) (rs : List Word) :
    (s.respond st rs).fltInfo = s.fltInfo := rfl
@[simp] theorem State.respond_fltCount (s : State) (st : Status) (rs : List Word) :
    (s.respond st rs).fltCount = s.fltCount := rfl
@[simp] theorem State.respond_diagFallback (s : State) (st : Status) (rs : List Word) :
    (s.respond st rs).diagFallback = s.diagFallback := rfl
@[simp] theorem State.respond_diagSkip (s : State) (st : Status) (rs : List Word) :
    (s.respond st rs).diagSkip = s.diagSkip := rfl
@[simp] theorem State.respond_diagSpurious (s : State) (st : Status) (rs : List Word) :
    (s.respond st rs).diagSpurious = s.diagSpurious := rfl
@[simp] theorem State.respond_dlog (s : State) (st : Status) (rs : List Word) : (s.respond st rs).dlog = s.dlog := rfl
@[simp] theorem State.respond_mem (s : State) (st : Status) (rs : List Word) : (s.respond st rs).mem = s.mem := rfl
@[simp] theorem State.respond_gbLog (s : State) (st : Status) (rs : List Word) :
    (s.respond st rs).gbLog = s.gbLog := rfl
@[simp] theorem State.respond_pdLog (s : State) (st : Status) (rs : List Word) :
    (s.respond st rs).pdLog = s.pdLog := rfl
@[simp] theorem State.respond_turn (s : State) (st : Status) (rs : List Word) : (s.respond st rs).turn = s.turn := rfl
@[simp] theorem State.respond_tick (s : State) (st : Status) (rs : List Word) : (s.respond st rs).tick = s.tick := rfl

/-! ## `State.hold` -/

@[simp] theorem State.hold_glueInit (s : State) (w : Work) : (s.hold w).glueInit = s.glueInit := rfl
@[simp] theorem State.hold_variantLatch (s : State) (w : Work) : (s.hold w).variantLatch = s.variantLatch := rfl
@[simp] theorem State.hold_glueWin (s : State) (w : Work) : (s.hold w).glueWin = s.glueWin := rfl
@[simp] theorem State.hold_slots (s : State) (w : Work) : (s.hold w).slots = s.slots := rfl
@[simp] theorem State.hold_lines (s : State) (w : Work) : (s.hold w).lines = s.lines := rfl
@[simp] theorem State.hold_dom (s : State) (w : Work) : (s.hold w).dom = s.dom := rfl
@[simp] theorem State.hold_domParent (s : State) (w : Work) : (s.hold w).domParent = s.domParent := rfl
@[simp] theorem State.hold_mode (s : State) (w : Work) : (s.hold w).mode = s.mode := rfl
@[simp] theorem State.hold_grant (s : State) (w : Work) : (s.hold w).grant = s.grant := rfl
@[simp] theorem State.hold_ackLock (s : State) (w : Work) : (s.hold w).ackLock = s.ackLock := rfl
@[simp] theorem State.hold_ependG (s : State) (w : Work) : (s.hold w).ependG = s.ependG := rfl
@[simp] theorem State.hold_ependH (s : State) (w : Work) : (s.hold w).ependH = s.ependH := rfl
@[simp] theorem State.hold_dmx (s : State) (w : Work) : (s.hold w).dmx = s.dmx := rfl
@[simp] theorem State.hold_ports (s : State) (w : Work) :
    (s.hold w).ports = s.ports.modify s.issuer fun p => { p with work := some w } := rfl
@[simp] theorem State.hold_fltCode (s : State) (w : Work) : (s.hold w).fltCode = s.fltCode := rfl
@[simp] theorem State.hold_fltInfo (s : State) (w : Work) : (s.hold w).fltInfo = s.fltInfo := rfl
@[simp] theorem State.hold_fltCount (s : State) (w : Work) : (s.hold w).fltCount = s.fltCount := rfl
@[simp] theorem State.hold_diagFallback (s : State) (w : Work) : (s.hold w).diagFallback = s.diagFallback := rfl
@[simp] theorem State.hold_diagSkip (s : State) (w : Work) : (s.hold w).diagSkip = s.diagSkip := rfl
@[simp] theorem State.hold_diagSpurious (s : State) (w : Work) : (s.hold w).diagSpurious = s.diagSpurious := rfl
@[simp] theorem State.hold_dlog (s : State) (w : Work) : (s.hold w).dlog = s.dlog := rfl
@[simp] theorem State.hold_mem (s : State) (w : Work) : (s.hold w).mem = s.mem := rfl
@[simp] theorem State.hold_gbLog (s : State) (w : Work) : (s.hold w).gbLog = s.gbLog := rfl
@[simp] theorem State.hold_pdLog (s : State) (w : Work) : (s.hold w).pdLog = s.pdLog := rfl
@[simp] theorem State.hold_turn (s : State) (w : Work) : (s.hold w).turn = s.turn := rfl
@[simp] theorem State.hold_tick (s : State) (w : Work) : (s.hold w).tick = s.tick := rfl

/-! ## `State.raise` -/

@[simp] theorem State.raise_glueInit (s : State) (f : Status) (info : Word) :
    (s.raise f info).glueInit = s.glueInit := rfl
@[simp] theorem State.raise_variantLatch (s : State) (f : Status) (info : Word) :
    (s.raise f info).variantLatch = s.variantLatch := rfl
@[simp] theorem State.raise_glueWin (s : State) (f : Status) (info : Word) :
    (s.raise f info).glueWin = s.glueWin := rfl
@[simp] theorem State.raise_slots (s : State) (f : Status) (info : Word) : (s.raise f info).slots = s.slots := rfl
@[simp] theorem State.raise_lines (s : State) (f : Status) (info : Word) : (s.raise f info).lines = s.lines := rfl
@[simp] theorem State.raise_dom (s : State) (f : Status) (info : Word) : (s.raise f info).dom = s.dom := rfl
@[simp] theorem State.raise_domParent (s : State) (f : Status) (info : Word) :
    (s.raise f info).domParent = s.domParent := rfl
@[simp] theorem State.raise_mode (s : State) (f : Status) (info : Word) : (s.raise f info).mode = s.mode := rfl
@[simp] theorem State.raise_grant (s : State) (f : Status) (info : Word) : (s.raise f info).grant = s.grant := rfl
@[simp] theorem State.raise_ackLock (s : State) (f : Status) (info : Word) :
    (s.raise f info).ackLock = s.ackLock := rfl
@[simp] theorem State.raise_ependG (s : State) (f : Status) (info : Word) : (s.raise f info).ependG = s.ependG := rfl
@[simp] theorem State.raise_ependH (s : State) (f : Status) (info : Word) : (s.raise f info).ependH = s.ependH := rfl
@[simp] theorem State.raise_dmx (s : State) (f : Status) (info : Word) : (s.raise f info).dmx = s.dmx := rfl
@[simp] theorem State.raise_ports (s : State) (f : Status) (info : Word) :
    (s.raise f info).ports = s.ports.modify s.issuer fun p =>
      { p with work := none, responses := p.responses ++ [{ status := f, results := [] }] } := rfl
@[simp] theorem State.raise_fltCode (s : State) (f : Status) (info : Word) :
    (s.raise f info).fltCode = if s.fltCode = 0 then f.code else s.fltCode := rfl
@[simp] theorem State.raise_fltInfo (s : State) (f : Status) (info : Word) :
    (s.raise f info).fltInfo = if s.fltCode = 0 then info else s.fltInfo := rfl
@[simp] theorem State.raise_fltCount (s : State) (f : Status) (info : Word) :
    (s.raise f info).fltCount = satSucc s.fltCount := rfl
@[simp] theorem State.raise_diagFallback (s : State) (f : Status) (info : Word) :
    (s.raise f info).diagFallback = s.diagFallback := rfl
@[simp] theorem State.raise_diagSkip (s : State) (f : Status) (info : Word) :
    (s.raise f info).diagSkip = s.diagSkip := rfl
@[simp] theorem State.raise_diagSpurious (s : State) (f : Status) (info : Word) :
    (s.raise f info).diagSpurious = s.diagSpurious := rfl
@[simp] theorem State.raise_dlog (s : State) (f : Status) (info : Word) : (s.raise f info).dlog = s.dlog := rfl
@[simp] theorem State.raise_mem (s : State) (f : Status) (info : Word) : (s.raise f info).mem = s.mem := rfl
@[simp] theorem State.raise_gbLog (s : State) (f : Status) (info : Word) : (s.raise f info).gbLog = s.gbLog := rfl
@[simp] theorem State.raise_pdLog (s : State) (f : Status) (info : Word) : (s.raise f info).pdLog = s.pdLog := rfl
@[simp] theorem State.raise_turn (s : State) (f : Status) (info : Word) : (s.raise f info).turn = s.turn := rfl
@[simp] theorem State.raise_tick (s : State) (f : Status) (info : Word) : (s.raise f info).tick = s.tick := rfl

/-! ## `State.gbRead` -/

@[simp] theorem State.gbRead_glueInit (e : Env) (s : State) (off : Word) :
    (s.gbRead e off).glueInit = s.glueInit := rfl
@[simp] theorem State.gbRead_variantLatch (e : Env) (s : State) (off : Word) :
    (s.gbRead e off).variantLatch = s.variantLatch := rfl
@[simp] theorem State.gbRead_glueWin (e : Env) (s : State) (off : Word) : (s.gbRead e off).glueWin = s.glueWin := rfl
@[simp] theorem State.gbRead_slots (e : Env) (s : State) (off : Word) : (s.gbRead e off).slots = s.slots := rfl
@[simp] theorem State.gbRead_lines (e : Env) (s : State) (off : Word) : (s.gbRead e off).lines = s.lines := rfl
@[simp] theorem State.gbRead_dom (e : Env) (s : State) (off : Word) : (s.gbRead e off).dom = s.dom := rfl
@[simp] theorem State.gbRead_domParent (e : Env) (s : State) (off : Word) :
    (s.gbRead e off).domParent = s.domParent := rfl
@[simp] theorem State.gbRead_mode (e : Env) (s : State) (off : Word) : (s.gbRead e off).mode = s.mode := rfl
@[simp] theorem State.gbRead_grant (e : Env) (s : State) (off : Word) : (s.gbRead e off).grant = s.grant := rfl
@[simp] theorem State.gbRead_ackLock (e : Env) (s : State) (off : Word) : (s.gbRead e off).ackLock = s.ackLock := rfl
@[simp] theorem State.gbRead_ependG (e : Env) (s : State) (off : Word) : (s.gbRead e off).ependG = s.ependG := rfl
@[simp] theorem State.gbRead_ependH (e : Env) (s : State) (off : Word) : (s.gbRead e off).ependH = s.ependH := rfl
@[simp] theorem State.gbRead_dmx (e : Env) (s : State) (off : Word) : (s.gbRead e off).dmx = s.dmx := rfl
@[simp] theorem State.gbRead_ports (e : Env) (s : State) (off : Word) : (s.gbRead e off).ports = s.ports := rfl
@[simp] theorem State.gbRead_fltCode (e : Env) (s : State) (off : Word) : (s.gbRead e off).fltCode = s.fltCode := rfl
@[simp] theorem State.gbRead_fltInfo (e : Env) (s : State) (off : Word) : (s.gbRead e off).fltInfo = s.fltInfo := rfl
@[simp] theorem State.gbRead_fltCount (e : Env) (s : State) (off : Word) :
    (s.gbRead e off).fltCount = s.fltCount := rfl
@[simp] theorem State.gbRead_diagFallback (e : Env) (s : State) (off : Word) :
    (s.gbRead e off).diagFallback = s.diagFallback := rfl
@[simp] theorem State.gbRead_diagSkip (e : Env) (s : State) (off : Word) :
    (s.gbRead e off).diagSkip = s.diagSkip := rfl
@[simp] theorem State.gbRead_diagSpurious (e : Env) (s : State) (off : Word) :
    (s.gbRead e off).diagSpurious = s.diagSpurious := rfl
@[simp] theorem State.gbRead_dlog (e : Env) (s : State) (off : Word) : (s.gbRead e off).dlog = s.dlog := rfl
@[simp] theorem State.gbRead_mem (e : Env) (s : State) (off : Word) : (s.gbRead e off).mem = s.mem := rfl
@[simp] theorem State.gbRead_gbLog (e : Env) (s : State) (off : Word) :
    (s.gbRead e off).gbLog = s.gbLog ++ [{ agent := s.turn, op := .read off (s.gbValue e off) }] := rfl
@[simp] theorem State.gbRead_pdLog (e : Env) (s : State) (off : Word) : (s.gbRead e off).pdLog = s.pdLog := rfl
@[simp] theorem State.gbRead_turn (e : Env) (s : State) (off : Word) : (s.gbRead e off).turn = s.turn := rfl
@[simp] theorem State.gbRead_tick (e : Env) (s : State) (off : Word) : (s.gbRead e off).tick = s.tick := rfl

/-! ## `State.gbWrite` -/

@[simp] theorem State.gbWrite_glueInit (e : Env) (s : State) (off v : Word) :
    (s.gbWrite e off v).glueInit = s.glueInit := rfl
@[simp] theorem State.gbWrite_variantLatch (e : Env) (s : State) (off v : Word) :
    (s.gbWrite e off v).variantLatch = s.variantLatch := rfl
@[simp] theorem State.gbWrite_glueWin (e : Env) (s : State) (off v : Word) :
    (s.gbWrite e off v).glueWin = s.glueWin := rfl
@[simp] theorem State.gbWrite_slots (e : Env) (s : State) (off v : Word) : (s.gbWrite e off v).slots = s.slots := rfl
@[simp] theorem State.gbWrite_lines (e : Env) (s : State) (off v : Word) : (s.gbWrite e off v).lines = s.lines := rfl
@[simp] theorem State.gbWrite_dom (e : Env) (s : State) (off v : Word) : (s.gbWrite e off v).dom = s.dom := rfl
@[simp] theorem State.gbWrite_domParent (e : Env) (s : State) (off v : Word) :
    (s.gbWrite e off v).domParent = s.domParent := rfl
@[simp] theorem State.gbWrite_mode (e : Env) (s : State) (off v : Word) : (s.gbWrite e off v).mode = s.mode := rfl
@[simp] theorem State.gbWrite_grant (e : Env) (s : State) (off v : Word) : (s.gbWrite e off v).grant = s.grant := rfl
@[simp] theorem State.gbWrite_ackLock (e : Env) (s : State) (off v : Word) :
    (s.gbWrite e off v).ackLock = s.ackLock := rfl
@[simp] theorem State.gbWrite_ependG (e : Env) (s : State) (off v : Word) :
    (s.gbWrite e off v).ependG = s.ependG := rfl
@[simp] theorem State.gbWrite_ependH (e : Env) (s : State) (off v : Word) :
    (s.gbWrite e off v).ependH = s.ependH := rfl
@[simp] theorem State.gbWrite_dmx (e : Env) (s : State) (off v : Word) : (s.gbWrite e off v).dmx = s.dmx := rfl
@[simp] theorem State.gbWrite_ports (e : Env) (s : State) (off v : Word) : (s.gbWrite e off v).ports = s.ports := rfl
@[simp] theorem State.gbWrite_fltCode (e : Env) (s : State) (off v : Word) :
    (s.gbWrite e off v).fltCode = s.fltCode := rfl
@[simp] theorem State.gbWrite_fltInfo (e : Env) (s : State) (off v : Word) :
    (s.gbWrite e off v).fltInfo = s.fltInfo := rfl
@[simp] theorem State.gbWrite_fltCount (e : Env) (s : State) (off v : Word) :
    (s.gbWrite e off v).fltCount = s.fltCount := rfl
@[simp] theorem State.gbWrite_diagFallback (e : Env) (s : State) (off v : Word) :
    (s.gbWrite e off v).diagFallback = s.diagFallback := rfl
@[simp] theorem State.gbWrite_diagSkip (e : Env) (s : State) (off v : Word) :
    (s.gbWrite e off v).diagSkip = s.diagSkip := rfl
@[simp] theorem State.gbWrite_diagSpurious (e : Env) (s : State) (off v : Word) :
    (s.gbWrite e off v).diagSpurious = s.diagSpurious := rfl
@[simp] theorem State.gbWrite_dlog (e : Env) (s : State) (off v : Word) : (s.gbWrite e off v).dlog = s.dlog := rfl
@[simp] theorem State.gbWrite_mem (e : Env) (s : State) (off v : Word) :
    (s.gbWrite e off v).mem = memPutWord e.par.glue0 s.mem off v := rfl
@[simp] theorem State.gbWrite_gbLog (e : Env) (s : State) (off v : Word) :
    (s.gbWrite e off v).gbLog = s.gbLog ++ [{ agent := s.turn, op := .write off v }] := rfl
@[simp] theorem State.gbWrite_pdLog (e : Env) (s : State) (off v : Word) : (s.gbWrite e off v).pdLog = s.pdLog := rfl
@[simp] theorem State.gbWrite_turn (e : Env) (s : State) (off v : Word) : (s.gbWrite e off v).turn = s.turn := rfl
@[simp] theorem State.gbWrite_tick (e : Env) (s : State) (off v : Word) : (s.gbWrite e off v).tick = s.tick := rfl

/-! ## `State.setLine` -/

@[simp] theorem State.setLine_glueInit (s : State) (i : SlotIx) (st : LineState) (b : Bool) :
    (s.setLine i st b).glueInit = s.glueInit := rfl
@[simp] theorem State.setLine_variantLatch (s : State) (i : SlotIx) (st : LineState) (b : Bool) :
    (s.setLine i st b).variantLatch = s.variantLatch := rfl
@[simp] theorem State.setLine_glueWin (s : State) (i : SlotIx) (st : LineState) (b : Bool) :
    (s.setLine i st b).glueWin = s.glueWin := rfl
@[simp] theorem State.setLine_slots (s : State) (i : SlotIx) (st : LineState) (b : Bool) :
    (s.setLine i st b).slots = s.slots := rfl
@[simp] theorem State.setLine_lines (s : State) (i : SlotIx) (st : LineState) (b : Bool) :
    (s.setLine i st b).lines = s.lines.set i { s.lines[i] with st := st, busy := b } := rfl
@[simp] theorem State.setLine_dom (s : State) (i : SlotIx) (st : LineState) (b : Bool) :
    (s.setLine i st b).dom = s.dom := rfl
@[simp] theorem State.setLine_domParent (s : State) (i : SlotIx) (st : LineState) (b : Bool) :
    (s.setLine i st b).domParent = s.domParent := rfl
@[simp] theorem State.setLine_mode (s : State) (i : SlotIx) (st : LineState) (b : Bool) :
    (s.setLine i st b).mode = s.mode := rfl
@[simp] theorem State.setLine_grant (s : State) (i : SlotIx) (st : LineState) (b : Bool) :
    (s.setLine i st b).grant = s.grant := rfl
@[simp] theorem State.setLine_ackLock (s : State) (i : SlotIx) (st : LineState) (b : Bool) :
    (s.setLine i st b).ackLock = s.ackLock := rfl
@[simp] theorem State.setLine_ependG (s : State) (i : SlotIx) (st : LineState) (b : Bool) :
    (s.setLine i st b).ependG = s.ependG := rfl
@[simp] theorem State.setLine_ependH (s : State) (i : SlotIx) (st : LineState) (b : Bool) :
    (s.setLine i st b).ependH = s.ependH := rfl
@[simp] theorem State.setLine_dmx (s : State) (i : SlotIx) (st : LineState) (b : Bool) :
    (s.setLine i st b).dmx = s.dmx := rfl
@[simp] theorem State.setLine_ports (s : State) (i : SlotIx) (st : LineState) (b : Bool) :
    (s.setLine i st b).ports = s.ports := rfl
@[simp] theorem State.setLine_fltCode (s : State) (i : SlotIx) (st : LineState) (b : Bool) :
    (s.setLine i st b).fltCode = s.fltCode := rfl
@[simp] theorem State.setLine_fltInfo (s : State) (i : SlotIx) (st : LineState) (b : Bool) :
    (s.setLine i st b).fltInfo = s.fltInfo := rfl
@[simp] theorem State.setLine_fltCount (s : State) (i : SlotIx) (st : LineState) (b : Bool) :
    (s.setLine i st b).fltCount = s.fltCount := rfl
@[simp] theorem State.setLine_diagFallback (s : State) (i : SlotIx) (st : LineState) (b : Bool) :
    (s.setLine i st b).diagFallback = s.diagFallback := rfl
@[simp] theorem State.setLine_diagSkip (s : State) (i : SlotIx) (st : LineState) (b : Bool) :
    (s.setLine i st b).diagSkip = s.diagSkip := rfl
@[simp] theorem State.setLine_diagSpurious (s : State) (i : SlotIx) (st : LineState) (b : Bool) :
    (s.setLine i st b).diagSpurious = s.diagSpurious := rfl
@[simp] theorem State.setLine_dlog (s : State) (i : SlotIx) (st : LineState) (b : Bool) :
    (s.setLine i st b).dlog = s.dlog := rfl
@[simp] theorem State.setLine_mem (s : State) (i : SlotIx) (st : LineState) (b : Bool) :
    (s.setLine i st b).mem = s.mem := rfl
@[simp] theorem State.setLine_gbLog (s : State) (i : SlotIx) (st : LineState) (b : Bool) :
    (s.setLine i st b).gbLog = s.gbLog := rfl
@[simp] theorem State.setLine_pdLog (s : State) (i : SlotIx) (st : LineState) (b : Bool) :
    (s.setLine i st b).pdLog = s.pdLog := rfl
@[simp] theorem State.setLine_turn (s : State) (i : SlotIx) (st : LineState) (b : Bool) :
    (s.setLine i st b).turn = s.turn := rfl
@[simp] theorem State.setLine_tick (s : State) (i : SlotIx) (st : LineState) (b : Bool) :
    (s.setLine i st b).tick = s.tick := rfl

/-! ## `State.setBusy` -/

@[simp] theorem State.setBusy_glueInit (s : State) (i : SlotIx) : (s.setBusy i).glueInit = s.glueInit := rfl
@[simp] theorem State.setBusy_variantLatch (s : State) (i : SlotIx) :
    (s.setBusy i).variantLatch = s.variantLatch := rfl
@[simp] theorem State.setBusy_glueWin (s : State) (i : SlotIx) : (s.setBusy i).glueWin = s.glueWin := rfl
@[simp] theorem State.setBusy_slots (s : State) (i : SlotIx) : (s.setBusy i).slots = s.slots := rfl
@[simp] theorem State.setBusy_lines (s : State) (i : SlotIx) :
    (s.setBusy i).lines = s.lines.set i { s.lines[i] with busy := true } := rfl
@[simp] theorem State.setBusy_dom (s : State) (i : SlotIx) : (s.setBusy i).dom = s.dom := rfl
@[simp] theorem State.setBusy_domParent (s : State) (i : SlotIx) : (s.setBusy i).domParent = s.domParent := rfl
@[simp] theorem State.setBusy_mode (s : State) (i : SlotIx) : (s.setBusy i).mode = s.mode := rfl
@[simp] theorem State.setBusy_grant (s : State) (i : SlotIx) : (s.setBusy i).grant = s.grant := rfl
@[simp] theorem State.setBusy_ackLock (s : State) (i : SlotIx) : (s.setBusy i).ackLock = s.ackLock := rfl
@[simp] theorem State.setBusy_ependG (s : State) (i : SlotIx) : (s.setBusy i).ependG = s.ependG := rfl
@[simp] theorem State.setBusy_ependH (s : State) (i : SlotIx) : (s.setBusy i).ependH = s.ependH := rfl
@[simp] theorem State.setBusy_dmx (s : State) (i : SlotIx) : (s.setBusy i).dmx = s.dmx := rfl
@[simp] theorem State.setBusy_ports (s : State) (i : SlotIx) : (s.setBusy i).ports = s.ports := rfl
@[simp] theorem State.setBusy_fltCode (s : State) (i : SlotIx) : (s.setBusy i).fltCode = s.fltCode := rfl
@[simp] theorem State.setBusy_fltInfo (s : State) (i : SlotIx) : (s.setBusy i).fltInfo = s.fltInfo := rfl
@[simp] theorem State.setBusy_fltCount (s : State) (i : SlotIx) : (s.setBusy i).fltCount = s.fltCount := rfl
@[simp] theorem State.setBusy_diagFallback (s : State) (i : SlotIx) :
    (s.setBusy i).diagFallback = s.diagFallback := rfl
@[simp] theorem State.setBusy_diagSkip (s : State) (i : SlotIx) : (s.setBusy i).diagSkip = s.diagSkip := rfl
@[simp] theorem State.setBusy_diagSpurious (s : State) (i : SlotIx) :
    (s.setBusy i).diagSpurious = s.diagSpurious := rfl
@[simp] theorem State.setBusy_dlog (s : State) (i : SlotIx) : (s.setBusy i).dlog = s.dlog := rfl
@[simp] theorem State.setBusy_mem (s : State) (i : SlotIx) : (s.setBusy i).mem = s.mem := rfl
@[simp] theorem State.setBusy_gbLog (s : State) (i : SlotIx) : (s.setBusy i).gbLog = s.gbLog := rfl
@[simp] theorem State.setBusy_pdLog (s : State) (i : SlotIx) : (s.setBusy i).pdLog = s.pdLog := rfl
@[simp] theorem State.setBusy_turn (s : State) (i : SlotIx) : (s.setBusy i).turn = s.turn := rfl
@[simp] theorem State.setBusy_tick (s : State) (i : SlotIx) : (s.setBusy i).tick = s.tick := rfl

/-! ## `State.emit` -/

@[simp] theorem State.emit_glueInit (s : State) (v h : Word) : (s.emit v h).glueInit = s.glueInit := rfl
@[simp] theorem State.emit_variantLatch (s : State) (v h : Word) : (s.emit v h).variantLatch = s.variantLatch := rfl
@[simp] theorem State.emit_glueWin (s : State) (v h : Word) : (s.emit v h).glueWin = s.glueWin := rfl
@[simp] theorem State.emit_slots (s : State) (v h : Word) : (s.emit v h).slots = s.slots := rfl
@[simp] theorem State.emit_lines (s : State) (v h : Word) : (s.emit v h).lines = s.lines := rfl
@[simp] theorem State.emit_dom (s : State) (v h : Word) : (s.emit v h).dom = s.dom := rfl
@[simp] theorem State.emit_domParent (s : State) (v h : Word) : (s.emit v h).domParent = s.domParent := rfl
@[simp] theorem State.emit_mode (s : State) (v h : Word) : (s.emit v h).mode = s.mode := rfl
@[simp] theorem State.emit_grant (s : State) (v h : Word) : (s.emit v h).grant = s.grant := rfl
@[simp] theorem State.emit_ackLock (s : State) (v h : Word) : (s.emit v h).ackLock = s.ackLock := rfl
@[simp] theorem State.emit_ependG (s : State) (v h : Word) : (s.emit v h).ependG = s.ependG := rfl
@[simp] theorem State.emit_ependH (s : State) (v h : Word) : (s.emit v h).ependH = s.ependH := rfl
@[simp] theorem State.emit_dmx (s : State) (v h : Word) : (s.emit v h).dmx = s.dmx := rfl
@[simp] theorem State.emit_ports (s : State) (v h : Word) : (s.emit v h).ports = s.ports := rfl
@[simp] theorem State.emit_fltCode (s : State) (v h : Word) : (s.emit v h).fltCode = s.fltCode := rfl
@[simp] theorem State.emit_fltInfo (s : State) (v h : Word) : (s.emit v h).fltInfo = s.fltInfo := rfl
@[simp] theorem State.emit_fltCount (s : State) (v h : Word) : (s.emit v h).fltCount = s.fltCount := rfl
@[simp] theorem State.emit_diagFallback (s : State) (v h : Word) : (s.emit v h).diagFallback = s.diagFallback := rfl
@[simp] theorem State.emit_diagSkip (s : State) (v h : Word) : (s.emit v h).diagSkip = s.diagSkip := rfl
@[simp] theorem State.emit_diagSpurious (s : State) (v h : Word) : (s.emit v h).diagSpurious = s.diagSpurious := rfl
@[simp] theorem State.emit_dlog (s : State) (v h : Word) :
    (s.emit v h).dlog = s.dlog ++ [{ virq := v, hwirq := h }] := rfl
@[simp] theorem State.emit_mem (s : State) (v h : Word) : (s.emit v h).mem = s.mem := rfl
@[simp] theorem State.emit_gbLog (s : State) (v h : Word) : (s.emit v h).gbLog = s.gbLog := rfl
@[simp] theorem State.emit_pdLog (s : State) (v h : Word) : (s.emit v h).pdLog = s.pdLog := rfl
@[simp] theorem State.emit_turn (s : State) (v h : Word) : (s.emit v h).turn = s.turn := rfl
@[simp] theorem State.emit_tick (s : State) (v h : Word) : (s.emit v h).tick = s.tick := rfl

/-! ## `State.setDmx` -/

@[simp] theorem State.setDmx_glueInit (s : State) (g : Group) (d : Dmx) : (s.setDmx g d).glueInit = s.glueInit := rfl
@[simp] theorem State.setDmx_variantLatch (s : State) (g : Group) (d : Dmx) :
    (s.setDmx g d).variantLatch = s.variantLatch := rfl
@[simp] theorem State.setDmx_glueWin (s : State) (g : Group) (d : Dmx) : (s.setDmx g d).glueWin = s.glueWin := rfl
@[simp] theorem State.setDmx_slots (s : State) (g : Group) (d : Dmx) : (s.setDmx g d).slots = s.slots := rfl
@[simp] theorem State.setDmx_lines (s : State) (g : Group) (d : Dmx) : (s.setDmx g d).lines = s.lines := rfl
@[simp] theorem State.setDmx_dom (s : State) (g : Group) (d : Dmx) : (s.setDmx g d).dom = s.dom := rfl
@[simp] theorem State.setDmx_domParent (s : State) (g : Group) (d : Dmx) :
    (s.setDmx g d).domParent = s.domParent := rfl
@[simp] theorem State.setDmx_mode (s : State) (g : Group) (d : Dmx) : (s.setDmx g d).mode = s.mode := rfl
@[simp] theorem State.setDmx_grant (s : State) (g : Group) (d : Dmx) : (s.setDmx g d).grant = s.grant := rfl
@[simp] theorem State.setDmx_ackLock (s : State) (g : Group) (d : Dmx) : (s.setDmx g d).ackLock = s.ackLock := rfl
@[simp] theorem State.setDmx_ependG (s : State) (g : Group) (d : Dmx) : (s.setDmx g d).ependG = s.ependG := rfl
@[simp] theorem State.setDmx_ependH (s : State) (g : Group) (d : Dmx) : (s.setDmx g d).ependH = s.ependH := rfl
@[simp] theorem State.setDmx_dmx (s : State) (g : Group) (d : Dmx) : (s.setDmx g d).dmx = s.dmx.set g d := rfl
@[simp] theorem State.setDmx_ports (s : State) (g : Group) (d : Dmx) : (s.setDmx g d).ports = s.ports := rfl
@[simp] theorem State.setDmx_fltCode (s : State) (g : Group) (d : Dmx) : (s.setDmx g d).fltCode = s.fltCode := rfl
@[simp] theorem State.setDmx_fltInfo (s : State) (g : Group) (d : Dmx) : (s.setDmx g d).fltInfo = s.fltInfo := rfl
@[simp] theorem State.setDmx_fltCount (s : State) (g : Group) (d : Dmx) : (s.setDmx g d).fltCount = s.fltCount := rfl
@[simp] theorem State.setDmx_diagFallback (s : State) (g : Group) (d : Dmx) :
    (s.setDmx g d).diagFallback = s.diagFallback := rfl
@[simp] theorem State.setDmx_diagSkip (s : State) (g : Group) (d : Dmx) : (s.setDmx g d).diagSkip = s.diagSkip := rfl
@[simp] theorem State.setDmx_diagSpurious (s : State) (g : Group) (d : Dmx) :
    (s.setDmx g d).diagSpurious = s.diagSpurious := rfl
@[simp] theorem State.setDmx_dlog (s : State) (g : Group) (d : Dmx) : (s.setDmx g d).dlog = s.dlog := rfl
@[simp] theorem State.setDmx_mem (s : State) (g : Group) (d : Dmx) : (s.setDmx g d).mem = s.mem := rfl
@[simp] theorem State.setDmx_gbLog (s : State) (g : Group) (d : Dmx) : (s.setDmx g d).gbLog = s.gbLog := rfl
@[simp] theorem State.setDmx_pdLog (s : State) (g : Group) (d : Dmx) : (s.setDmx g d).pdLog = s.pdLog := rfl
@[simp] theorem State.setDmx_turn (s : State) (g : Group) (d : Dmx) : (s.setDmx g d).turn = s.turn := rfl
@[simp] theorem State.setDmx_tick (s : State) (g : Group) (d : Dmx) : (s.setDmx g d).tick = s.tick := rfl

/-! ## `State.takeWords` -/

@[simp] theorem State.takeWords_glueInit (s : State) (r : Nat) (ws : List Word) :
    (s.takeWords r ws).glueInit = s.glueInit := rfl
@[simp] theorem State.takeWords_variantLatch (s : State) (r : Nat) (ws : List Word) :
    (s.takeWords r ws).variantLatch = s.variantLatch := rfl
@[simp] theorem State.takeWords_glueWin (s : State) (r : Nat) (ws : List Word) :
    (s.takeWords r ws).glueWin = s.glueWin := rfl
@[simp] theorem State.takeWords_slots (s : State) (r : Nat) (ws : List Word) :
    (s.takeWords r ws).slots = s.slots := rfl
@[simp] theorem State.takeWords_lines (s : State) (r : Nat) (ws : List Word) :
    (s.takeWords r ws).lines = s.lines := rfl
@[simp] theorem State.takeWords_dom (s : State) (r : Nat) (ws : List Word) : (s.takeWords r ws).dom = s.dom := rfl
@[simp] theorem State.takeWords_domParent (s : State) (r : Nat) (ws : List Word) :
    (s.takeWords r ws).domParent = s.domParent := rfl
@[simp] theorem State.takeWords_mode (s : State) (r : Nat) (ws : List Word) : (s.takeWords r ws).mode = s.mode := rfl
@[simp] theorem State.takeWords_grant (s : State) (r : Nat) (ws : List Word) :
    (s.takeWords r ws).grant = s.grant := rfl
@[simp] theorem State.takeWords_ackLock (s : State) (r : Nat) (ws : List Word) :
    (s.takeWords r ws).ackLock = s.ackLock := rfl
@[simp] theorem State.takeWords_ependG (s : State) (r : Nat) (ws : List Word) :
    (s.takeWords r ws).ependG = s.ependG := rfl
@[simp] theorem State.takeWords_ependH (s : State) (r : Nat) (ws : List Word) :
    (s.takeWords r ws).ependH = s.ependH := rfl
@[simp] theorem State.takeWords_dmx (s : State) (r : Nat) (ws : List Word) : (s.takeWords r ws).dmx = s.dmx := rfl
@[simp] theorem State.takeWords_ports (s : State) (r : Nat) (ws : List Word) :
    (s.takeWords r ws).ports = s.ports.modify r fun p => { p with words := ws } := rfl
@[simp] theorem State.takeWords_fltCode (s : State) (r : Nat) (ws : List Word) :
    (s.takeWords r ws).fltCode = s.fltCode := rfl
@[simp] theorem State.takeWords_fltInfo (s : State) (r : Nat) (ws : List Word) :
    (s.takeWords r ws).fltInfo = s.fltInfo := rfl
@[simp] theorem State.takeWords_fltCount (s : State) (r : Nat) (ws : List Word) :
    (s.takeWords r ws).fltCount = s.fltCount := rfl
@[simp] theorem State.takeWords_diagFallback (s : State) (r : Nat) (ws : List Word) :
    (s.takeWords r ws).diagFallback = s.diagFallback := rfl
@[simp] theorem State.takeWords_diagSkip (s : State) (r : Nat) (ws : List Word) :
    (s.takeWords r ws).diagSkip = s.diagSkip := rfl
@[simp] theorem State.takeWords_diagSpurious (s : State) (r : Nat) (ws : List Word) :
    (s.takeWords r ws).diagSpurious = s.diagSpurious := rfl
@[simp] theorem State.takeWords_dlog (s : State) (r : Nat) (ws : List Word) : (s.takeWords r ws).dlog = s.dlog := rfl
@[simp] theorem State.takeWords_mem (s : State) (r : Nat) (ws : List Word) : (s.takeWords r ws).mem = s.mem := rfl
@[simp] theorem State.takeWords_gbLog (s : State) (r : Nat) (ws : List Word) :
    (s.takeWords r ws).gbLog = s.gbLog := rfl
@[simp] theorem State.takeWords_pdLog (s : State) (r : Nat) (ws : List Word) :
    (s.takeWords r ws).pdLog = s.pdLog := rfl
@[simp] theorem State.takeWords_turn (s : State) (r : Nat) (ws : List Word) : (s.takeWords r ws).turn = s.turn := rfl
@[simp] theorem State.takeWords_tick (s : State) (r : Nat) (ws : List Word) : (s.takeWords r ws).tick = s.tick := rfl

/-! ## `State.advance` -/

@[simp] theorem State.advance_glueInit (e : Env) (s : State) : (s.advance e).glueInit = s.glueInit := rfl
@[simp] theorem State.advance_variantLatch (e : Env) (s : State) : (s.advance e).variantLatch = s.variantLatch := rfl
@[simp] theorem State.advance_glueWin (e : Env) (s : State) : (s.advance e).glueWin = s.glueWin := rfl
@[simp] theorem State.advance_slots (e : Env) (s : State) : (s.advance e).slots = s.slots := rfl
@[simp] theorem State.advance_lines (e : Env) (s : State) : (s.advance e).lines = s.lines := rfl
@[simp] theorem State.advance_dom (e : Env) (s : State) : (s.advance e).dom = s.dom := rfl
@[simp] theorem State.advance_domParent (e : Env) (s : State) : (s.advance e).domParent = s.domParent := rfl
@[simp] theorem State.advance_mode (e : Env) (s : State) : (s.advance e).mode = s.mode := rfl
@[simp] theorem State.advance_grant (e : Env) (s : State) : (s.advance e).grant = s.grant := rfl
@[simp] theorem State.advance_ackLock (e : Env) (s : State) : (s.advance e).ackLock = s.ackLock := rfl
@[simp] theorem State.advance_ependG (e : Env) (s : State) : (s.advance e).ependG = s.ependG := rfl
@[simp] theorem State.advance_ependH (e : Env) (s : State) : (s.advance e).ependH = s.ependH := rfl
@[simp] theorem State.advance_dmx (e : Env) (s : State) : (s.advance e).dmx = s.dmx := rfl
@[simp] theorem State.advance_ports (e : Env) (s : State) : (s.advance e).ports = s.ports := rfl
@[simp] theorem State.advance_fltCode (e : Env) (s : State) : (s.advance e).fltCode = s.fltCode := rfl
@[simp] theorem State.advance_fltInfo (e : Env) (s : State) : (s.advance e).fltInfo = s.fltInfo := rfl
@[simp] theorem State.advance_fltCount (e : Env) (s : State) : (s.advance e).fltCount = s.fltCount := rfl
@[simp] theorem State.advance_diagFallback (e : Env) (s : State) : (s.advance e).diagFallback = s.diagFallback := rfl
@[simp] theorem State.advance_diagSkip (e : Env) (s : State) : (s.advance e).diagSkip = s.diagSkip := rfl
@[simp] theorem State.advance_diagSpurious (e : Env) (s : State) : (s.advance e).diagSpurious = s.diagSpurious := rfl
@[simp] theorem State.advance_dlog (e : Env) (s : State) : (s.advance e).dlog = s.dlog := rfl
@[simp] theorem State.advance_mem (e : Env) (s : State) : (s.advance e).mem = s.mem := rfl
@[simp] theorem State.advance_gbLog (e : Env) (s : State) : (s.advance e).gbLog = s.gbLog := rfl
@[simp] theorem State.advance_pdLog (e : Env) (s : State) : (s.advance e).pdLog = s.pdLog := rfl
@[simp] theorem State.advance_turn (e : Env) (s : State) : (s.advance e).turn = e.nextTurn s.tick := rfl
@[simp] theorem State.advance_tick (e : Env) (s : State) : (s.advance e).tick = s.tick + 1 := rfl

/-! ## `State.create` -/

@[simp] theorem State.create_glueInit (s : State) : s.create.glueInit = State.reset.glueInit := rfl
@[simp] theorem State.create_variantLatch (s : State) : s.create.variantLatch = State.reset.variantLatch := rfl
@[simp] theorem State.create_glueWin (s : State) : s.create.glueWin = State.reset.glueWin := rfl
@[simp] theorem State.create_slots (s : State) : s.create.slots = State.reset.slots := rfl
@[simp] theorem State.create_lines (s : State) : s.create.lines = State.reset.lines := rfl
@[simp] theorem State.create_dom (s : State) : s.create.dom = State.reset.dom := rfl
@[simp] theorem State.create_domParent (s : State) : s.create.domParent = State.reset.domParent := rfl
@[simp] theorem State.create_mode (s : State) : s.create.mode = State.reset.mode := rfl
@[simp] theorem State.create_grant (s : State) : s.create.grant = State.reset.grant := rfl
@[simp] theorem State.create_ackLock (s : State) : s.create.ackLock = State.reset.ackLock := rfl
@[simp] theorem State.create_ependG (s : State) : s.create.ependG = State.reset.ependG := rfl
@[simp] theorem State.create_ependH (s : State) : s.create.ependH = State.reset.ependH := rfl
@[simp] theorem State.create_dmx (s : State) : s.create.dmx = State.reset.dmx := rfl
@[simp] theorem State.create_ports (s : State) : s.create.ports = s.ports.map fun p => { p with work := none } := rfl
@[simp] theorem State.create_fltCode (s : State) : s.create.fltCode = State.reset.fltCode := rfl
@[simp] theorem State.create_fltInfo (s : State) : s.create.fltInfo = State.reset.fltInfo := rfl
@[simp] theorem State.create_fltCount (s : State) : s.create.fltCount = State.reset.fltCount := rfl
@[simp] theorem State.create_diagFallback (s : State) : s.create.diagFallback = State.reset.diagFallback := rfl
@[simp] theorem State.create_diagSkip (s : State) : s.create.diagSkip = State.reset.diagSkip := rfl
@[simp] theorem State.create_diagSpurious (s : State) : s.create.diagSpurious = State.reset.diagSpurious := rfl
@[simp] theorem State.create_dlog (s : State) : s.create.dlog = State.reset.dlog := rfl
@[simp] theorem State.create_mem (s : State) : s.create.mem = s.mem := rfl
@[simp] theorem State.create_gbLog (s : State) : s.create.gbLog = s.gbLog := rfl
@[simp] theorem State.create_pdLog (s : State) : s.create.pdLog = s.pdLog := rfl
@[simp] theorem State.create_turn (s : State) : s.create.turn = s.turn := rfl
@[simp] theorem State.create_tick (s : State) : s.create.tick = s.tick := rfl

end Sys2Proof.Machine
end

