-- ==== Sys2Proof/Laws/Table.lean ====
section
/-! SUPPORT. The searches over the allocation table and the domains, each as the quantified statement of the spec, and the
small sets of the demultiplexer. -/

namespace Sys2Proof.Machine

/-- The first index with a property: it has it, and no lower index does. -/
theorem find_finRange_eq_some {n : Nat} (p : Fin n → Bool) (i : Fin n) :
    (List.finRange n).find? p = some i ↔ p i = true ∧ ∀ j < i, p j = false := by
  rw [List.find?_eq_some_iff_getElem]
  constructor
  · rintro ⟨hp, k, hk, hki, hlt⟩
    refine ⟨hp, fun j hj => ?_⟩
    have hki' : k = i.val := by simpa using congrArg Fin.val hki
    have := hlt j.val (by omega)
    simpa using this
  · rintro ⟨hp, hlt⟩
    refine ⟨hp, i.val, by simp, by simp, fun j hj => ?_⟩
    have := hlt ⟨j, by omega⟩ (by simpa [Fin.lt_def] using hj)
    simpa using this

/-- No index has the property. -/
theorem find_finRange_eq_none {n : Nat} (p : Fin n → Bool) :
    (List.finRange n).find? p = none ↔ ∀ i, p i = false := by
  simp [List.find?_eq_none]

/-- `find_line` finds the lowest slot that holds the virq. -/
theorem findLine_eq_some_iff (s : State) (v : Word) (i : SlotIx) :
    s.findLine v = some i ↔ s.slots[i] = some v ∧ ∀ j < i, s.slots[j] ≠ some v := by
  simp [State.findLine, find_finRange_eq_some]

/-- `find_line` finds nothing iff no slot holds the virq. -/
theorem findLine_eq_none_iff (s : State) (v : Word) : s.findLine v = none ↔ ∀ i : SlotIx, s.slots[i] ≠ some v := by
  simp [State.findLine]

/-- `find_line` finds the one slot that holds the virq (R124). -/
theorem findLine_of_unique {s : State} {v : Word} {i : SlotIx} (hi : s.slots[i] = some v)
    (hu : ∀ j : SlotIx, s.slots[j] = some v → j = i) : s.findLine v = some i := by
  rw [findLine_eq_some_iff]
  exact ⟨hi, fun j hj h => by rw [hu j h] at hj; exact lt_irrefl _ hj⟩

theorem findLine_isSome_iff (s : State) (v : Word) : (s.findLine v).isSome = true ↔ ∃ i : SlotIx, s.slots[i] = some v := by
  rw [← Option.ne_none_iff_isSome, ne_eq, findLine_eq_none_iff]
  push Not
  rfl

@[simp] theorem liveSlot_iff (s : State) (i : SlotIx) : s.liveSlot i = true ↔ s.slots[i] ≠ none := by
  simp [State.liveSlot, Option.isSome_iff_ne_none]

@[simp] theorem liveOf_iff (s : State) (f : FnId) (i : SlotIx) :
    s.liveOf f i = true ↔ s.slots[i] ≠ none ∧ s.lines[i].f = f := by
  simp [State.liveOf]

/-- `live(f)` is not empty. -/
theorem anyLive_iff (s : State) (f : FnId) :
    s.anyLive f = true ↔ ∃ i : SlotIx, s.slots[i] ≠ none ∧ s.lines[i].f = f := by
  simp [State.anyLive]

/-- ALLOC of (f, sub) clashes with a live line of `f` (R125). -/
theorem clash_iff (s : State) (f : FnId) (sub : SubId) :
    s.clash f sub = true ↔ ∃ j : SlotIx, (s.slots[j] ≠ none ∧ s.lines[j].f = f) ∧
      (s.lines[j].s = sub ∨ s.lines[j].s = bcast ∨ sub = bcast) := by
  simp [State.clash, or_assoc]

/-- The lowest empty slot. -/
theorem firstEmpty_eq_some_iff (s : State) (i : SlotIx) :
    s.firstEmpty = some i ↔ s.slots[i] = none ∧ ∀ j < i, s.slots[j] ≠ none := by
  simp [State.firstEmpty, find_finRange_eq_some, State.liveSlot, Option.isSome_iff_ne_none]

/-- The table is full. -/
theorem firstEmpty_eq_none_iff (s : State) : s.firstEmpty = none ↔ ∀ i : SlotIx, s.slots[i] ≠ none := by
  simp [State.firstEmpty, State.liveSlot]

/-- The lowest function whose domain has left Unbuilt. -/
theorem firstBegun_eq_some_iff (s : State) (f : FnId) :
    s.firstBegun = some f ↔ s.dom[f] ≠ .unbuilt ∧ ∀ j < f, s.dom[j] = .unbuilt := by
  simp [State.firstBegun, find_finRange_eq_some]

/-- Every domain is Unbuilt. -/
theorem firstBegun_eq_none_iff (s : State) : s.firstBegun = none ↔ ∀ f : FnId, s.dom[f] = .unbuilt := by
  simp [State.firstBegun]

/-- The lookup finds a virq only through a live line of a Built domain (R170). -/
theorem lookup_eq_some {s : State} {f : FnId} {h v : Word} (hv : s.lookup f h = some v) :
    s.dom[f] = .built ∧ ∃ i : SlotIx, s.slots[i] ≠ none ∧ s.lines[i].f = f ∧
      encHwirq s.lines[i].f s.lines[i].s = h ∧ s.lines[i].virq = v := by
  unfold State.lookup at hv
  split at hv
  · next hd =>
    rw [Option.map_eq_some_iff] at hv
    obtain ⟨i, hi, hiv⟩ := hv
    have := ((find_finRange_eq_some _ i).1 hi).1
    simp only [Bool.and_eq_true, liveOf_iff, decide_eq_true_eq] at this
    exact ⟨hd, i, this.1.1, this.1.2, this.2, hiv⟩
  · exact absurd hv (by simp)

/-- The lookup finds nothing iff the domain is not Built or no live line of the function has the hwirq (R170, R178). -/
theorem lookup_eq_none_iff (s : State) (f : FnId) (h : Word) :
    s.lookup f h = none ↔ s.dom[f] ≠ .built ∨
      ∀ i : SlotIx, s.slots[i] ≠ none → s.lines[i].f = f → encHwirq s.lines[i].f s.lines[i].s ≠ h := by
  unfold State.lookup
  split
  · next hd =>
    rw [Option.map_eq_none_iff, find_finRange_eq_none]
    simp only [hd, ne_eq, not_true_eq_false, false_or, Bool.and_eq_false_iff]
    refine forall_congr' fun i => ?_
    rw [← Bool.not_eq_true, liveOf_iff]
    simp only [decide_eq_false_iff_not]
    tauto
  · next hd => exact iff_of_true rfl (Or.inl hd)

/-- The positions `setBits` lists. -/
@[simp] theorem mem_setBits (w : Word) (i : Nat) : i ∈ setBits w ↔ i < 32 ∧ w.getLsbD i = true := by
  simp [setBits]

/-- A word with no set bit is zero. -/
theorem setBits_eq_nil_iff (w : Word) : setBits w = [] ↔ w = 0 := by
  constructor
  · intro h
    apply BitVec.eq_of_getLsbD_eq
    intro i hi
    have : ¬ i ∈ setBits w := by simp [h]
    simpa [hi] using this
  · rintro rfl; simp [setBits]

/-- The bit a run handles next is a set bit; there is one while any is set (R197). -/
theorem chooseBit_eq_some {e : Env} {w : Word} {n i : Nat} (h : chooseBit e w n = some i) :
    i < 32 ∧ w.getLsbD i = true := by
  rw [← mem_setBits]
  exact List.mem_of_getElem? h

theorem chooseBit_eq_none_iff (e : Env) (w : Word) (n : Nat) : chooseBit e w n = none ↔ w = 0 := by
  unfold chooseBit
  rw [List.getElem?_eq_none_iff, ← setBits_eq_nil_iff]
  constructor
  · intro h
    by_contra hne
    have := Nat.mod_lt (e.pick n) (List.length_pos_iff.2 hne)
    omega
  · rintro h; simp [h]

theorem chooseHwirq_eq_some {e : Env} {hs : List Word} {n : Nat} {h : Word} (hc : chooseHwirq e hs n = some h) :
    h ∈ hs := List.mem_of_getElem? hc

theorem chooseHwirq_eq_none_iff (e : Env) (hs : List Word) (n : Nat) : chooseHwirq e hs n = none ↔ hs = [] := by
  unfold chooseHwirq
  rw [List.getElem?_eq_none_iff]
  constructor
  · intro h
    by_contra hne
    have := Nat.mod_lt (e.pick n) (List.length_pos_iff.2 hne)
    omega
  · rintro rfl; simp

/-- Membership after `setInsert`. -/
@[simp] theorem mem_setInsert (w x : Word) (xs : List Word) : x ∈ setInsert w xs ↔ x = w ∨ x ∈ xs := by
  induction xs with
  | nil => simp [setInsert]
  | cons y ys ih =>
    unfold setInsert
    split
    · simp
    · split
      · next h => subst h; simp
      · simp only [List.mem_cons, ih]; tauto

/-- `setInsert` keeps a strictly rising list strictly rising. -/
theorem setInsert_rising (w : Word) (xs : List Word) (h : xs.Pairwise (· < ·)) : (setInsert w xs).Pairwise (· < ·) := by
  induction xs with
  | nil => simp [setInsert]
  | cons y ys ih =>
    rw [List.pairwise_cons] at h
    unfold setInsert
    split
    · next hlt =>
      rw [List.pairwise_cons, List.pairwise_cons]
      refine ⟨?_, h⟩
      intro z hz
      rcases List.mem_cons.1 hz with rfl | hz
      · exact hlt
      · exact BitVec.lt_trans hlt (h.1 z hz)
    · split
      · exact List.pairwise_cons.2 h
      · next h1 h2 =>
        rw [List.pairwise_cons]
        refine ⟨fun z hz => ?_, ih h.2⟩
        rcases (mem_setInsert w z ys).1 hz with rfl | hz
        · by_contra h3
          exact h2 (BitVec.le_antisymm (BitVec.not_lt.1 h3) (BitVec.not_lt.1 h1))
        · exact h.1 z hz

/-- Membership after `setErase`. -/
@[simp] theorem mem_setErase (w x : Word) (xs : List Word) : x ∈ setErase w xs ↔ x ∈ xs ∧ x ≠ w := by
  simp [setErase]

theorem setErase_rising (w : Word) (xs : List Word) (h : xs.Pairwise (· < ·)) : (setErase w xs).Pairwise (· < ·) :=
  h.filter _

/-- One group's value after `set`. -/
@[simp] theorem PerGroup.get_set {α : Type} (x : PerGroup α) (g g' : Group) (v : α) :
    (x.set g v).get g' = if g' = g then v else x.get g' := by
  cases g <;> cases g' <;> rfl

end Sys2Proof.Machine
end

