-- ==== Sys2Proof/Laws/Meanings.lean ====
section
/-! SUPPORT. One inversion lemma per shared operation and per command: everything its first step can do. -/

namespace Sys2Proof.Machine

/-- An offset passes the check of R63 exactly when it is admitted. -/
theorem admits_iff (s : State) (off : Word) : (s.regs Config.env).admits off = true ↔ Admitted s off := by
  unfold GlueRegs.admits Admitted
  rw [Bool.and_eq_true, decide_eq_true_eq, decide_eq_true_eq]
  exact Iff.rfl

/-- `CHECK_RAL`: two faults, or the command's own step (R100). -/
theorem checkRal_cases (e : Env) (opc : BitVec 8) (off : Word) (s k : State) :
    (s.glueInit = false ∧ checkRal e opc off s k = s.raise .notInitialized (opcInfo opc)) ∨
    (s.glueInit = true ∧ (s.regs e).admits off = false ∧ checkRal e opc off s k = s.raise .badOffset off) ∨
    (s.glueInit = true ∧ (s.regs e).admits off = true ∧ checkRal e opc off s k = k) := by
  unfold checkRal
  split
  · next h => exact .inl ⟨h, rfl⟩
  · next h =>
    have hi : s.glueInit = true := by simpa using h
    split
    · next h2 => exact .inr (.inl ⟨hi, h2, rfl⟩)
    · next h2 => exact .inr (.inr ⟨hi, by simpa using h2, rfl⟩)

/-- The first checks of a line command: three faults, or the command's own step on the line it found. -/
theorem withLine_cases (opc : BitVec 8) (virq : Word) (s : State) (k : SlotIx → State) :
    (s.glueInit = false ∧ withLine opc virq s k = s.raise .notInitialized (opcInfo opc)) ∨
    (s.glueInit = true ∧ s.findLine virq = none ∧ withLine opc virq s k = s.raise .unknownVirq virq) ∨
    (∃ i, s.glueInit = true ∧ s.findLine virq = some i ∧ s.lines[i].busy = true ∧
      withLine opc virq s k = s.raise .reentry virq) ∨
    (∃ i, s.glueInit = true ∧ s.findLine virq = some i ∧ s.lines[i].busy = false ∧ withLine opc virq s k = k i) := by
  unfold withLine
  split
  · next h => exact .inl ⟨h, rfl⟩
  · next h =>
    have hi : s.glueInit = true := by simpa using h
    split
    · next h2 => exact .inr (.inl ⟨hi, h2, rfl⟩)
    · next i h2 =>
      split
      · next h3 => exact .inr (.inr (.inl ⟨i, hi, h2, h3, rfl⟩))
      · next h3 => exact .inr (.inr (.inr ⟨i, hi, h2, by simpa using h3, rfl⟩))

/-- The first checks of a line command pass on the one slot that holds the virq, if its line is not busy. -/
theorem withLine_of_unique {opc : BitVec 8} {virq : Word} {s : State} {i : SlotIx} (k : SlotIx → State)
    (h : s.glueInit = true) (hi : s.slots[i] = some virq) (hu : ∀ j : SlotIx, s.slots[j] = some virq → j = i)
    (hb : s.lines[i].busy = false) : withLine opc virq s k = k i := by
  unfold withLine
  rw [if_neg (by simp [h]), findLine_of_unique hi hu]
  simp only [hb, Bool.false_eq_true, if_false]

/-- The line record a successful ALLOC writes (R125). -/
def newLine (e : Env) (f : FnId) (sub : SubId) (virq : Word) : Line :=
  { f := f, s := sub, virq := virq, mbits := maskBits (e.par.subfuncCount f) sub, st := .unconfigured, busy := false }

/-- ALLOC: a fault, an error, or a new line in the lowest empty slot, all its checks passed (R125). -/
theorem allocate_cases (e : Env) (fn sf : BitVec 8) (virq : Word) (s : State) :
    (∃ f info, f.isFault = true ∧ allocate e fn sf virq s = s.raise f info) ∨
    (∃ st, (st = .noDomain ∨ st = .allocationTableExhausted) ∧ allocate e fn sf virq s = s.respond st []) ∨
    (∃ f sub i, s.glueInit = true ∧ fnId? fn = some f ∧ sfId? sf = some sub ∧
      (sub = bcast ∨ sub.val < e.par.subfuncCount f) ∧ s.dom[f] = .built ∧ s.findLine virq = none ∧
      s.clash f sub = false ∧ modeForbids s.mode[f] sub = false ∧ s.firstEmpty = some i ∧
      allocate e fn sf virq s =
        State.respond
          { s with slots := s.slots.set i (some virq), lines := s.lines.set i (newLine e f sub virq) }
          .ok [BitVec.ofNat 32 i.val]) := by
  unfold allocate
  split
  · exact .inl ⟨_, _, rfl, rfl⟩
  · next hi =>
    split
    · next f sub hf hs =>
      split
      · exact .inl ⟨_, _, rfl, rfl⟩
      · next h1 =>
        split
        · exact .inr (.inl ⟨_, .inl rfl, rfl⟩)
        · next h2 =>
          split
          · exact .inl ⟨_, _, rfl, rfl⟩
          · next h3 =>
            split
            · exact .inl ⟨_, _, rfl, rfl⟩
            · next h4 =>
              split
              · exact .inl ⟨_, _, rfl, rfl⟩
              · next h5 =>
                split
                · exact .inr (.inl ⟨_, .inr rfl, rfl⟩)
                · next i h6 =>
                  refine .inr (.inr ⟨f, sub, i, by simpa using hi, hf, hs, ?_, by simpa using h2, by simpa using h3,
                    by simpa using h4, by simpa using h5, h6, rfl⟩)
                  by_cases hb : sub = bcast
                  · exact .inl hb
                  · exact .inr (by simpa [hb] using h1)
    · exact .inl ⟨_, _, rfl, rfl⟩

/-- COMPOSE: the counted default, a fault, or the line's message (R130, R131). -/
theorem composeMsg_cases (e : Env) (virq : Word) (s : State) :
    (s.glueInit = false ∧ composeMsg e virq s =
      State.respond { s with diagFallback := s.diagFallback + 1 } .ok [e.par.msiAddr, virq - 1]) ∨
    (∃ f info, f.isFault = true ∧ composeMsg e virq s = s.raise f info) ∨
    (∃ i, s.glueInit = true ∧ s.findLine virq = some i ∧ s.lines[i].busy = false ∧
      composeMsg e virq s = s.respond .ok [e.par.msiAddr, BitVec.ofNat 32 i.val]) := by
  unfold composeMsg
  split
  · next h => exact .inl ⟨h, rfl⟩
  · next h =>
    split
    · exact .inr (.inl ⟨_, _, rfl, rfl⟩)
    · next i hi =>
      split
      · exact .inr (.inl ⟨_, _, rfl, rfl⟩)
      · next hb => exact .inr (.inr ⟨i, by simpa using h, hi, by simpa using hb, rfl⟩)

/-- ASSIGN: a fault, an error, or a grant recorded with all its checks passed (R160). -/
theorem assignVectors_cases (e : Env) (fn : BitVec 8) (n g : Word) (s : State) :
    (∃ f info, f.isFault = true ∧ assignVectors e fn n g s = s.raise f info) ∨
    (∃ st, (st = .noDomain ∨ st = .grantFailed) ∧ assignVectors e fn n g s = s.respond st []) ∨
    (∃ f, s.glueInit = true ∧ fnId? fn = some f ∧ n ≠ 0 ∧ n.toNat ≤ e.par.subfuncCount f ∧ s.dom[f] = .built ∧
      s.mode[f] = .none ∧ s.anyLive f = false ∧ g ≠ 0 ∧
      ((n ≤ g ∧ assignVectors e fn n g s =
          State.respond
            { s with mode := s.mode.set f (.perSub (Fin.ofNat 32 n.toNat)), grant := s.grant.set f n } .ok [n]) ∨
        (¬ n ≤ g ∧ assignVectors e fn n g s =
          State.respond { s with mode := s.mode.set f .broadcast, grant := s.grant.set f g } .ok [g]))) := by
  unfold assignVectors
  split
  · exact .inl ⟨_, _, rfl, rfl⟩
  · next hi =>
    split
    · exact .inl ⟨_, _, rfl, rfl⟩
    · next f hf =>
      split
      · exact .inl ⟨_, _, rfl, rfl⟩
      · next h1 =>
        split
        · exact .inr (.inl ⟨_, .inl rfl, rfl⟩)
        · next h2 =>
          split
          · exact .inl ⟨_, _, rfl, rfl⟩
          · next h3 =>
            split
            · exact .inr (.inl ⟨_, .inr rfl, rfl⟩)
            · next h4 =>
              push Not at h1 h2 h3
              refine .inr (.inr ⟨f, by simpa using hi, hf, h1.1, h1.2, h2, h3.1, by simpa using h3.2, h4, ?_⟩)
              split
              · next h5 => exact .inl ⟨h5, rfl⟩
              · next h5 => exact .inr ⟨h5, rfl⟩

/-- FREEI: a fault, or the grant cleared (R161). -/
theorem freeVectors_cases (fn : BitVec 8) (s : State) :
    (∃ f info, f.isFault = true ∧ freeVectors fn s = s.raise f info) ∨
    (∃ f, s.glueInit = true ∧ fnId? fn = some f ∧ s.anyLive f = false ∧ freeVectors fn s =
      State.respond { s with mode := s.mode.set f .none, grant := s.grant.set f 0 } .ok []) := by
  unfold freeVectors
  split
  · exact .inl ⟨_, _, rfl, rfl⟩
  · next hi =>
    split
    · exact .inl ⟨_, _, rfl, rfl⟩
    · next f hf =>
      split
      · exact .inl ⟨_, _, rfl, rfl⟩
      · next h => exact .inr ⟨f, by simpa using hi, hf, by simpa using h, rfl⟩

/-- DBUILD: a fault, the order error, or an attempt to build an Unbuilt domain (R173). -/
theorem buildOne_cases (e : Env) (fn : BitVec 8) (s : State) :
    (∃ f info, f.isFault = true ∧ buildOne e fn s = s.raise f info) ∨
    buildOne e fn s = s.respond .domainOrder [] ∨
    (∃ f, s.glueInit = true ∧ fnId? fn = some f ∧ s.dom[f] = .unbuilt ∧ f = e.par.primary ∧
      buildOne e fn s = (buildDomain e (drawnParent e s) .unbuilt f (askRemap e s)).respond
        (if e.createOk s.tick f then .ok else .domainCreationFailed) []) ∨
    (∃ f, s.glueInit = true ∧ fnId? fn = some f ∧ s.dom[f] = .unbuilt ∧ f ≠ e.par.primary ∧
      s.dom[e.par.primary] = .built ∧
      buildOne e fn s = (buildDomain e s.domParent[e.par.primary] .failed f s).respond
        (if e.createOk s.tick f then .ok else .secondaryDomainFailed) []) := by
  unfold buildOne
  split
  · exact .inl ⟨_, _, rfl, rfl⟩
  · next hi =>
    split
    · exact .inl ⟨_, _, rfl, rfl⟩
    · next f hf =>
      split
      · exact .inl ⟨_, _, rfl, rfl⟩
      · next h1 =>
        split
        · next h2 => exact .inr (.inr (.inl ⟨f, by simpa using hi, hf, by simpa using h1, h2, rfl⟩))
        · next h2 =>
          split
          · exact .inr (.inl rfl)
          · next h3 =>
            exact .inr (.inr (.inr ⟨f, by simpa using hi, hf, by simpa using h1, h2, by simpa using h3, rfl⟩))

/-- DBUILDALL: a fault, the failed primary with nothing built, or the eight attempts (R174). -/
theorem buildAll_cases (e : Env) (s : State) :
    (∃ f info, f.isFault = true ∧ buildAll e s = s.raise f info) ∨
    (s.glueInit = true ∧ s.firstBegun = none ∧ e.createOk s.tick e.par.primary = false ∧
      buildAll e s = (buildDomain e (drawnParent e s) .unbuilt e.par.primary (askRemap e s)).respond
        .domainCreationFailed []) ∨
    (s.glueInit = true ∧ s.firstBegun = none ∧ e.createOk s.tick e.par.primary = true ∧
      buildAll e s = ((secondaries e).foldl (fun t f => buildDomain e (drawnParent e s) .failed f t)
        (buildDomain e (drawnParent e s) .unbuilt e.par.primary (askRemap e s))).respond
        .ok [failMask e s.tick (secondaries e)]) := by
  unfold buildAll
  split
  · exact .inl ⟨_, _, rfl, rfl⟩
  · next hi =>
    split
    · exact .inl ⟨_, _, rfl, rfl⟩
    · next h1 =>
      split
      · next h2 => exact .inr (.inr ⟨by simpa using hi, h1, h2, rfl⟩)
      · next h2 => exact .inr (.inl ⟨by simpa using hi, h1, by simpa using h2, rfl⟩)

/-- DTEAR: a fault, or every domain and grant cleared with no line live (R175). -/
theorem tearDown_cases (e : Env) (s : State) :
    (∃ f info, f.isFault = true ∧ tearDown e s = s.raise f info) ∨
    (s.glueInit = true ∧ (∀ i : SlotIx, s.slots[i] = none) ∧ tearDown e s =
      State.respond
        { s with
          dom := Vector.replicate 8 .unbuilt
          domParent := Vector.replicate 8 .none
          mode := Vector.replicate 8 .none
          grant := Vector.replicate 8 0
          pdLog := s.pdLog ++
            (((teardownOrder e).filter fun f => decide (s.dom[f] = .built)).map .destroyDomain) }
        .ok []) := by
  unfold tearDown
  split
  · exact .inl ⟨_, _, rfl, rfl⟩
  · next hi =>
    split
    · exact .inl ⟨_, _, rfl, rfl⟩
    · next h => exact .inr ⟨by simpa using hi, by simpa [State.liveSlot] using h, rfl⟩

/-- DLOOKUP: a fault, or an answer (R176). -/
theorem queryLookup_cases (fn sf : BitVec 8) (s : State) :
    (∃ f info, f.isFault = true ∧ queryLookup fn sf s = s.raise f info) ∨
    (∃ f sub, s.glueInit = true ∧ fnId? fn = some f ∧ sfId? sf = some sub ∧
      ((s.lookup f (encHwirq f sub) = none ∧ queryLookup fn sf s = s.respond .ok [0, 0]) ∨
       (∃ v, s.lookup f (encHwirq f sub) = some v ∧ queryLookup fn sf s = s.respond .ok [1, v]))) := by
  unfold queryLookup
  split
  · exact .inl ⟨_, _, rfl, rfl⟩
  · next hi =>
    split
    · next f sub hf hs =>
      refine .inr ⟨f, sub, by simpa using hi, hf, hs, ?_⟩
      split
      · next h => exact .inl ⟨h, rfl⟩
      · next v h => exact .inr ⟨v, h, rfl⟩
    · exact .inl ⟨_, _, rfl, rfl⟩

/-- GINIT: a fault, or the latch, the window and the init bit set (R210). -/
theorem initGlue_cases (e : Env) (s : State) :
    (s.glueInit = true ∧ initGlue e s = s.raise .controlState (controlInfo 0x30 0)) ∨
    (s.glueInit = false ∧ initGlue e s =
      State.respond { s with glueInit := true, variantLatch := e.par.strap, glueWin := e.par.winIndex e.par.strap }
        .ok []) := by
  unfold initGlue
  split
  · next h => exact .inl ⟨h, rfl⟩
  · next h => exact .inr ⟨by simpa using h, rfl⟩

/-- GDEINIT: a fault, or the init bit cleared with every domain Unbuilt (R211). -/
theorem deinitGlue_cases (e : Env) (s : State) :
    (∃ f info, f.isFault = true ∧ deinitGlue e s = s.raise f info) ∨
    (s.glueInit = true ∧ (∀ f : FnId, s.dom[f] = .unbuilt) ∧ deinitGlue e s =
      State.respond
        { s with glueInit := false, variantLatch := e.freeVariant s.tick, glueWin := e.freeWin s.tick } .ok []) := by
  unfold deinitGlue
  split
  · exact .inl ⟨_, _, rfl, rfl⟩
  · next hi =>
    split
    · exact .inl ⟨_, _, rfl, rfl⟩
    · next h => exact .inr ⟨by simpa using hi, (firstBegun_eq_none_iff s).1 h, rfl⟩

/-- An edge event: counted, or pending in one of the two places (R192, R193). -/
theorem acceptEdge_cases (e : Env) (h : Word) (s : State) :
    (decHwirq h = none ∧ acceptEdge e h s = { s with diagSpurious := s.diagSpurious + 1 }) ∨
    (∃ f l g, decHwirq h = some (f, l) ∧ s.glueInit = true ∧ s.variantLatch = .B ∧ groupOf e.par f = some g ∧
      acceptEdge e h s = { s with ependG := s.ependG.set g true }) ∨
    (∃ f l, decHwirq h = some (f, l) ∧ ¬ (s.glueInit = true ∧ s.variantLatch = .B ∧ (groupOf e.par f).isSome) ∧
      acceptEdge e h s = { s with ependH := setInsert h s.ependH }) := by
  unfold acceptEdge
  split
  · next h0 => exact .inl ⟨h0, rfl⟩
  · next d h0 =>
    obtain ⟨f, l⟩ := d
    unfold routeEdge
    split
    · next h1 =>
      split
      · next g h2 => exact .inr (.inl ⟨f, l, g, h0, h1.1, h1.2, h2, rfl⟩)
      · next h2 => exact .inr (.inr ⟨f, l, h0, by simp only [h2]; simp, rfl⟩)
    · next h1 => exact .inr (.inr ⟨f, l, h0, fun h2 => h1 ⟨h2.1, h2.2.1⟩, rfl⟩)

/-- Building one domain changes its status, its parent and the record of `PD` requests, by the draw. -/
theorem buildDomain_cases (e : Env) (p : Parent) (bad : DomStatus) (f : FnId) (s : State) :
    (e.createOk s.tick f = true ∧ buildDomain e p bad f s =
      { s with dom := s.dom.set f .built, domParent := s.domParent.set f p,
               pdLog := s.pdLog ++ [.createDomain p f (domBase f)] }) ∨
    (e.createOk s.tick f = false ∧ buildDomain e p bad f s =
      { s with dom := s.dom.set f bad, pdLog := s.pdLog ++ [.createDomain p f (domBase f)] }) := by
  unfold buildDomain
  split
  · next h => exact .inl ⟨h, rfl⟩
  · next h => exact .inr ⟨by simpa using h, rfl⟩

/-- Handling one pending bit: one dispatch of a line the lookup finds, or one count of `DIAG_SKIP` (R197, R201). -/
theorem demuxBit_cases (e : Env) (g : Group) (i : Nat) (s : State) :
    (∃ v h, s.lookup (e.par.funcOf g) h = some v ∧ demuxBit e g i s = s.emit v h) ∨
    demuxBit e g i s = { s with diagSkip := s.diagSkip + 1 } := by
  unfold demuxBit
  dsimp only
  split
  · next v h => exact .inl ⟨v, _, h, rfl⟩
  · split
    · next vb _ hb =>
      split
      · exact .inl ⟨vb, _, hb, rfl⟩
      · exact .inr rfl
    · exact .inr rfl

/-- Step T1: the agent takes the lock, or does not move (R194). -/
theorem demuxT1_cases (g : Group) (s : State) :
    (s.ependG.get g = true ∧ s.ackLock = .free ∧ demuxT1 g s =
      State.setDmx { s with ependG := s.ependG.set g false, ackLock := .held g } g
        { s.dmx.get g with phase := .locked .t2 }) ∨
    (¬ (s.ependG.get g = true ∧ s.ackLock = .free) ∧ demuxT1 g s = s) := by
  unfold demuxT1
  split
  · next h => exact .inl ⟨h.1, h.2, rfl⟩
  · next h => exact .inr ⟨h, rfl⟩

end Sys2Proof.Machine
end

