-- ==== Sys2Proof/Laws/Alone.lean ====
section
/-! SUPPORT. A command run with no other agent's step in between: how `alone` goes on from a held command. -/

namespace Sys2Proof

open Sys2Proof.Machine

/-- The issuing port after a command is held. -/
theorem hold_issuer_port {s : State} {r : Nat} {p : Port} (w : Work) (ht : s.turn = .req r) (hp : s.ports[r]? = some p) :
    (s.hold w).ports[r]? = some { p with work := some w } := by
  simp [State.issuer, ht, hp]

/-- The issuing port after a response. -/
theorem respond_issuer_port {s : State} {r : Nat} {p : Port} (st : Status) (results : List Word) (ht : s.turn = .req r)
    (hp : s.ports[r]? = some p) : (s.respond st results).ports[r]? =
      some { p with work := none, responses := p.responses ++ [{ status := st, results := results }] } := by
  simp [State.issuer, ht, hp]

theorem workOf_hold {s : State} {r : Nat} {p : Port} (w : Work) (ht : s.turn = .req r) (hp : s.ports[r]? = some p) :
    workOf (s.hold w) r = some w := by
  rw [workOf, hold_issuer_port w ht hp]
  rfl

@[simp] theorem alone_zero (e : Env) (r : Nat) (s : State) : alone e r 0 s = s := rfl

/-- A held command takes its next labelled step. -/
theorem alone_hold (e : Env) {r : Nat} (n : Nat) {s : State} {p : Port} (w : Work) (ht : s.turn = .req r)
    (hp : s.ports[r]? = some p) : alone e r (n + 1) (s.hold w) = alone e r n (resumeWork e w (s.hold w)) := by
  rw [alone, workOf_hold w ht hp]

end Sys2Proof
end

