-- ==== Sys2Proof/Laws/Header.lean ====
section
/-! SUPPORT. The header's fields are what `header` puts there (R81, R88). -/

namespace Sys2Proof

/-- The bits of a header. -/
theorem getLsbD_header (a b c : BitVec 8) (i : Nat) : (header a b c).getLsbD i =
    if i < 8 then false
    else if i < 16 then c.getLsbD (i - 8)
    else if i < 24 then b.getLsbD (i - 16)
    else a.getLsbD (i - 24) := by
  show (a ++ b ++ c ++ (0 : BitVec 8)).getLsbD i = _
  simp only [BitVec.getLsbD_append]
  split_ifs <;> first | rfl | omega | simp

@[simp] theorem headerOpc_header (a b c : BitVec 8) : headerOpc (header a b c) = a := by
  ext i hi
  rw [headerOpc, BitVec.getElem_extractLsb', getLsbD_header]
  simp [hi, show ¬ 24 + i < 8 by omega, show ¬ 24 + i < 16 by omega]

@[simp] theorem headerFn_header (a b c : BitVec 8) : headerFn (header a b c) = b := by
  ext i hi
  rw [headerFn, BitVec.getElem_extractLsb', getLsbD_header]
  simp [hi, show ¬ 16 + i < 8 by omega, show 16 + i < 24 by omega]

@[simp] theorem headerSf_header (a b c : BitVec 8) : headerSf (header a b c) = c := by
  ext i hi
  rw [headerSf, BitVec.getElem_extractLsb', getLsbD_header]
  simp [hi, show 8 + i < 16 by omega]

@[simp] theorem headerRsv_header (a b c : BitVec 8) : headerRsv (header a b c) = 0 := by
  ext i hi
  rw [headerRsv, BitVec.getElem_extractLsb', getLsbD_header]
  simp [hi]

/-- A header is its four fields. -/
theorem header_fields (h : Word) (hr : headerRsv h = 0) : header (headerOpc h) (headerFn h) (headerSf h) = h := by
  have : header (headerOpc h) (headerFn h) (headerSf h) =
      (h.extractLsb' 24 8 ++ h.extractLsb' 16 8 ++ h.extractLsb' 8 8 ++ h.extractLsb' 0 8 : Word) := by
    rw [show h.extractLsb' 0 8 = 0 from hr]; rfl
  rw [this]
  ext i hi
  simp only [BitVec.getElem_append, BitVec.getElem_extractLsb']
  split_ifs <;> (rw [BitVec.getLsbD_eq_getElem (by omega)]; congr 1; omega)

end Sys2Proof
end

