-- ==== Sys2Proof/Laws/Memory.lean ====
section
/-! SUPPORT. The glue window: a read after a write, the bytes a write leaves alone, and the canonical form every memory
operation keeps. -/

namespace Sys2Proof.Machine

/-- Reading a byte looks at the entries in order. -/
theorem memByte_cons (d : Nat → Byte) (c : Host.Cell) (cs : List Host.Cell) (x : Nat) :
    memByte d (c :: cs) x = if c.1 = x then c.2 else memByte d cs x := rfl

/-- Listing a byte: it reads back, every other byte as before. -/
theorem memByte_memInsert (d : Nat → Byte) (m : List Host.Cell) (a x : Nat) (b : Byte) :
    memByte d (memInsert a b m) x = if x = a then b else memByte d m x := by
  induction m with
  | nil => simp only [memInsert, memByte, eq_comm]
  | cons c cs ih =>
    unfold memInsert
    split
    · simp only [memByte_cons, eq_comm]
    · split
      · simp only [memByte_cons]
        split_ifs <;> first | rfl | omega
      · rw [memByte_cons, ih, memByte_cons]
        split_ifs <;> first | rfl | omega

/-- Dropping the byte at `a`: it reads as at launch, every other byte as before. -/
theorem memByte_filter (d : Nat → Byte) (m : List Host.Cell) (a x : Nat) :
    memByte d (m.filter fun c => decide (c.1 ≠ a)) x = if x = a then d a else memByte d m x := by
  induction m with
  | nil => simp only [List.filter_nil, memByte]; split_ifs with h <;> simp [h]
  | cons c cs ih =>
    by_cases hc : c.1 = a
    · rw [List.filter_cons_of_neg (by simp [hc]), ih, memByte_cons]
      split_ifs <;> first | rfl | omega
    · rw [List.filter_cons_of_pos (by simp [hc]), memByte_cons, memByte_cons, ih]
      split_ifs <;> first | rfl | omega

/-- A byte reads back as it was written, and every other byte as before. -/
theorem memByte_memPut (d : Nat → Byte) (m : List Host.Cell) (a x : Nat) (b : Byte) :
    memByte d (memPut d m a b) x = if x = a then b else memByte d m x := by
  unfold memPut
  split
  · next h => rw [memByte_filter, h]
  · exact memByte_memInsert d m a x b

/-- The bytes of a 32-bit write, little-endian, and every other byte as before. -/
theorem memByte_memPutWord (d : Nat → Byte) (m : List Host.Cell) (off v : Word) (x : Nat) :
    memByte d (memPutWord d m off v) x =
      if x = off.toNat then v.extractLsb' 0 8
      else if x = off.toNat + 1 then v.extractLsb' 8 8
      else if x = off.toNat + 2 then v.extractLsb' 16 8
      else if x = off.toNat + 3 then v.extractLsb' 24 8
      else memByte d m x := by
  simp only [memPutWord, memByte_memPut]
  split_ifs <;> first | rfl | omega

/-- A word is its four bytes. -/
theorem word_of_bytes (v : Word) :
    (v.extractLsb' 24 8 ++ v.extractLsb' 16 8 ++ v.extractLsb' 8 8 ++ v.extractLsb' 0 8 : Word) = v := by
  ext i hi
  simp only [BitVec.getElem_append, BitVec.getElem_extractLsb']
  split_ifs <;> (rw [BitVec.getLsbD_eq_getElem (by omega)]; congr 1; omega)

/-- A register reads back as it was written (R64). -/
@[simp] theorem memWord_memPutWord_same (d : Nat → Byte) (m : List Host.Cell) (off v : Word) :
    memWord d (memPutWord d m off v) off = v := by
  simp [memWord, memByte_memPutWord, word_of_bytes]

/-- Two 4-aligned offsets that differ are at least four bytes apart. -/
theorem aligned_apart {a b : Word} (ha : a.extractLsb' 0 2 = 0) (hb : b.extractLsb' 0 2 = 0) (h : a ≠ b) :
    a.toNat + 4 ≤ b.toNat ∨ b.toNat + 4 ≤ a.toNat := by
  have ha' := congrArg BitVec.toNat ha
  have hb' := congrArg BitVec.toNat hb
  have hne : a.toNat ≠ b.toNat := fun e => h (BitVec.eq_of_toNat_eq e)
  simp at ha' hb'
  omega

/-- A write leaves every other aligned register alone (R64). -/
theorem memWord_memPutWord_other (d : Nat → Byte) (m : List Host.Cell) {off x : Word} (v : Word)
    (ho : off.extractLsb' 0 2 = 0) (hx : x.extractLsb' 0 2 = 0) (h : x ≠ off) :
    memWord d (memPutWord d m off v) x = memWord d m x := by
  rcases aligned_apart hx ho h with h | h <;>
    simp only [memWord, memByte_memPutWord] <;>
    (repeat rw [if_neg (by omega)])

/-- Every offset listed in a canonical window is above a lower bound of its head. -/
theorem memWf_cons (d : Nat → Byte) (c : Host.Cell) (cs : List Host.Cell) :
    memWf d (c :: cs) = true ↔ (∀ c' ∈ cs, c.1 < c'.1) ∧ c.2 ≠ d c.1 ∧ memWf d cs = true := by
  simp [memWf, and_assoc]

theorem mem_memInsert (a : Nat) (b : Byte) (m : List Host.Cell) (c : Host.Cell) (h : c ∈ memInsert a b m) :
    c = (a, b) ∨ c ∈ m := by
  induction m with
  | nil => simpa [memInsert] using h
  | cons x xs ih =>
    simp only [memInsert] at h
    split at h
    · simpa using h
    · split at h
      · simp only [List.mem_cons] at h ⊢; tauto
      · simp only [List.mem_cons] at h ⊢
        rcases h with h | h
        · tauto
        · rcases ih h with h | h <;> tauto

/-- Listing a byte that differs from the launch contents keeps the canonical form. -/
theorem memWf_memInsert (d : Nat → Byte) (m : List Host.Cell) (a : Nat) (b : Byte) (hb : b ≠ d a)
    (hm : memWf d m = true) : memWf d (memInsert a b m) = true := by
  induction m with
  | nil => simp [memInsert, memWf, hb]
  | cons c cs ih =>
    rw [memWf_cons] at hm
    obtain ⟨h1, h2, h3⟩ := hm
    unfold memInsert
    split
    · next h =>
      rw [memWf_cons, memWf_cons]
      refine ⟨?_, hb, h1, h2, h3⟩
      intro c' hc'
      rcases List.mem_cons.1 hc' with rfl | hc'
      · exact h
      · exact lt_trans h (h1 c' hc')
    · split
      · next h h' =>
        rw [memWf_cons]
        exact ⟨fun c' hc' => by rw [h']; exact h1 c' hc', hb, h3⟩
      · next h h' =>
        rw [memWf_cons]
        refine ⟨?_, h2, ih h3⟩
        intro c' hc'
        rcases mem_memInsert a b cs c' hc' with rfl | hc'
        · show c.1 < a; omega
        · exact h1 c' hc'

/-- Dropping a byte keeps the canonical form. -/
theorem memWf_filter (d : Nat → Byte) (m : List Host.Cell) (q : Host.Cell → Bool) (hm : memWf d m = true) :
    memWf d (m.filter q) = true := by
  induction m with
  | nil => rfl
  | cons c cs ih =>
    rw [memWf_cons] at hm
    rw [List.filter_cons]
    split
    · rw [memWf_cons]
      exact ⟨fun c' hc' => hm.1 c' (List.mem_filter.1 hc').1, hm.2.1, ih hm.2.2⟩
    · exact ih hm.2.2

/-- Writing a byte keeps the canonical form. -/
theorem memWf_memPut (d : Nat → Byte) (m : List Host.Cell) (a : Nat) (b : Byte) (hm : memWf d m = true) :
    memWf d (memPut d m a b) = true := by
  unfold memPut
  split
  · exact memWf_filter d m _ hm
  · next h => exact memWf_memInsert d m a b h hm

/-- A 32-bit write keeps the canonical form. -/
theorem memWf_memPutWord (d : Nat → Byte) (m : List Host.Cell) (off v : Word) (hm : memWf d m = true) :
    memWf d (memPutWord d m off v) = true :=
  memWf_memPut d _ _ _ (memWf_memPut d _ _ _ (memWf_memPut d _ _ _ (memWf_memPut d _ _ _ hm)))

/-- The machine's glue window stays canonical under a write; the only operation that changes it is `gbWrite`. -/
theorem Memory.wf_gbWrite (s : State) (off v : Word) (h : Memory.wf s.mem = true) :
    Memory.wf (s.gbWrite Config.env off v).mem = true :=
  memWf_memPutWord _ _ _ _ h

/-- The window after reset is canonical. -/
theorem Memory.wf_reset : Memory.wf State.reset.mem = true := rfl

end Sys2Proof.Machine
end

