-- ==== Sys2Proof/Laws/Operands.lean ====
section
/-! SUPPORT. The operand checks and the info words, in the forms the rules give them. -/

namespace Sys2Proof.Machine

theorem fnId?_eq_some {fn : BitVec 8} {f : FnId} (h : fn.toNat = f.val) : fnId? fn = some f := by
  unfold fnId?
  rw [dif_pos (by omega)]
  exact congrArg some (Fin.ext h)

theorem fnId?_eq_none {fn : BitVec 8} (h : 7 < fn.toNat) : fnId? fn = none := by
  unfold fnId?
  rw [dif_neg (by omega)]

theorem sfId?_eq_some {sf : BitVec 8} {l : SubId} (h : sf.toNat = l.val) : sfId? sf = some l := by
  unfold sfId?
  rw [dif_pos (by omega)]
  exact congrArg some (Fin.ext h)

theorem sfId?_eq_none {sf : BitVec 8} (h : 31 < sf.toNat) : sfId? sf = none := by
  unfold sfId?
  rw [dif_neg (by omega)]

/-- What `fnId?` answers is FN. -/
theorem fnId?_val {fn : BitVec 8} {f : FnId} (h : fnId? fn = some f) : f.val = fn.toNat := by
  unfold fnId? at h
  split at h
  · cases h
    rfl
  · cases h

/-- What `sfId?` answers is SF. -/
theorem sfId?_val {sf : BitVec 8} {l : SubId} (h : sfId? sf = some l) : l.val = sf.toNat := by
  unfold sfId? at h
  split at h
  · cases h
    rfl
  · cases h

theorem getLsbD_lowMask (i : Nat) (hi : i < 32) : (0x00FFFFFF : Word).getLsbD i = decide (i < 24) := by
  have : ∀ i < 32, (0x00FFFFFF : Word).getLsbD i = decide (i < 24) := by decide
  exact this i hi

/-- The info word `(f << 24) | x[23:0]` of R224. -/
theorem argInfo_eq (fn : BitVec 8) (x : Word) : argInfo fn x = (fn.setWidth 32 <<< 24) ||| (x &&& 0x00FFFFFF) := by
  apply BitVec.eq_of_getLsbD_eq
  intro i hi
  rw [argInfo, BitVec.getLsbD_append, BitVec.getLsbD_or, BitVec.getLsbD_shiftLeft, BitVec.getLsbD_setWidth,
    BitVec.getLsbD_and, BitVec.getLsbD_extractLsb', getLsbD_lowMask i hi]
  by_cases h : i < 24
  · simp [h]
  · simp [h, hi, show i - 24 < 32 by omega]

/-- The same for a value of at most 24 bits. -/
theorem argInfo_of_lt (fn : BitVec 8) (x : Word) (h : x.toNat < 2 ^ 24) :
    argInfo fn x = (fn.setWidth 32 <<< 24) ||| x := by
  rw [argInfo_eq]
  congr 1
  apply BitVec.eq_of_getLsbD_eq
  intro i hi
  rw [BitVec.getLsbD_and, getLsbD_lowMask i hi]
  by_cases h24 : i < 24
  · simp [h24]
  · have : x.getLsbD i = false := by
      rw [BitVec.getLsbD, Nat.testBit_eq_false_of_lt]
      exact lt_of_lt_of_le h (Nat.pow_le_pow_right (by decide) (by omega))
    simp [this]

theorem argInfo_zero (fn : BitVec 8) : argInfo fn 0 = fn.setWidth 32 <<< 24 := by
  rw [argInfo_of_lt fn 0 (by decide)]
  simp

theorem argInfo_sf (fn sf : BitVec 8) : argInfo fn (sf.setWidth 32) = (fn.setWidth 32 <<< 24) ||| sf.setWidth 32 :=
  argInfo_of_lt _ _ (by simp; omega)

end Sys2Proof.Machine

namespace Sys2Proof

/-- A header is its fields shifted to their places (R88). -/
theorem header_eq (o fn sf : BitVec 8) :
    header o fn sf = (o.setWidth 32 <<< 24) ||| (fn.setWidth 32 <<< 16) ||| (sf.setWidth 32 <<< 8) := by
  apply BitVec.eq_of_getLsbD_eq
  intro i hi
  rw [getLsbD_header]
  simp only [BitVec.getLsbD_or, BitVec.getLsbD_shiftLeft, BitVec.getLsbD_setWidth]
  have g : ∀ (a : BitVec 8) j, 8 ≤ j → a.getLsbD j = false := fun a j h => BitVec.getLsbD_of_ge a j h
  by_cases h1 : i < 8
  · simp [h1, show i < 16 by omega, show i < 24 by omega]
  by_cases h2 : i < 16
  · simp [h1, h2, hi, show i < 24 by omega, show i - 8 < 32 by omega]
  by_cases h3 : i < 24
  · simp [h1, h2, h3, hi, g sf (i - 8) (by omega), show i - 16 < 32 by omega]
  · simp [h1, h2, h3, hi, g sf (i - 8) (by omega), g fn (i - 16) (by omega), show i - 24 < 32 by omega]

end Sys2Proof
end

