-- ==== Sys2Proof/Laws/Params.lean ====
section
/-! SUPPORT. The configuration is well formed: what follows from it, one lemma per fact a proof needs. -/

namespace Sys2Proof

open Sys2Proof.Machine

/-- REF satisfies the conditions of R8, R63, R64, R75 and R191. -/
theorem ref_ok (v : Variant) : (Params.ref v).ok = true := by cases v <;> decide +kernel

/-- The machine's configuration is well formed. -/
theorem params_ok : Config.params.ok = true := by
  unfold Config.params
  split
  · assumption
  · exact ref_ok .A

/-- `1 ≤ SUBFUNC_COUNT(f) ≤ 31` (R8). -/
theorem subfuncCount_bounds (f : FnId) : 1 ≤ Config.params.subfuncCount f ∧ Config.params.subfuncCount f ≤ 31 := by
  have h := params_ok
  simp only [Params.ok, Bool.and_eq_true, List.all_eq_true, decide_eq_true_eq] at h
  exact h.1.1.1.1.1.1.1 f (List.mem_finRange f)

/-- There is a requester (R8). -/
theorem numReq_pos : 1 ≤ Config.params.numReq := by
  have h := params_ok
  simp only [Params.ok, Bool.and_eq_true, decide_eq_true_eq] at h
  exact h.1.1.1.1.1.1.2

/-- `USB_SHIFT` is 0x10 (R191). -/
@[simp] theorem usbShift_eq : Config.params.usbShift = 0x10 := by
  have h := params_ok
  simp only [Params.ok, Bool.and_eq_true, decide_eq_true_eq] at h
  exact h.1.1.1.1.1.2

/-- The ports after reset: one for each requester, each with nothing on it. -/
theorem Machine.Port.atReset_eq : Port.atReset = List.replicate Config.params.numReq Port.empty := by
  obtain ⟨n, hn⟩ : ∃ n, Config.params.numReq = n + 1 := ⟨_, (Nat.sub_add_cancel numReq_pos).symm⟩
  rw [Port.atReset, hn, List.replicate_succ, Nat.add_sub_cancel]

@[simp] theorem Machine.Port.atReset_length : Port.atReset.length = Config.params.numReq := by simp [Port.atReset_eq]

@[simp] theorem Machine.Port.mem_atReset {p : Port} : p ∈ Port.atReset ↔ p = Port.empty := by
  simpa [Port.atReset_eq] using fun _ => Nat.ne_of_gt numReq_pos

/-- The `GROUP_SHIFT` column of R191's table. -/
theorem Machine.groupShift_eq (g : Group) :
    groupShift Config.params g = match g with | .glue => 0 | .usb => 0x10 | .dma => 0 := by
  cases g <;> simp [groupShift]

/-- The three group functions are pairwise distinct (R8). -/
theorem funcOf_injective : Function.Injective Config.params.funcOf := by
  have h := params_ok
  simp only [Params.ok, Bool.and_eq_true, decide_eq_true_eq] at h
  obtain ⟨⟨⟨⟨⟨-, h1⟩, h2⟩, h3⟩, -⟩, -⟩ := h
  intro a b hab
  cases a <;> cases b <;> first | rfl | exact absurd hab ‹_› | exact absurd hab.symm ‹_›

/-- Each variant's glue parameters are well formed. -/
theorem regs_ok (v : Variant) : (Config.params.regs v).ok Config.params.subfuncCount = true := by
  have h := params_ok
  simp only [Params.ok, Bool.and_eq_true] at h
  cases v
  · exact h.1.2
  · exact h.2

/-- The conditions on one variant's glue parameters, taken apart. -/
theorem glueRegs_ok_cases {g : GlueRegs} {count : FnId → Nat} (h : g.ok count = true) :
    g.glueSize.extractLsb' 0 2 = 0 ∧ 4 ≤ g.glueSize ∧ (∃ i < 32, g.glueEnMask = 1#32 <<< i) ∧
    g.ackRd ∈ g.volatileRegs ∧ (∀ o ∈ g.volatileRegs, g.admits o = true) ∧
    (∀ o ∈ g.singles, g.admits o = true) ∧ allDistinct g.singles = true ∧
    (∀ f l, g.admits (g.dataLoReg f l) = true ∧ g.dataLoReg f l ∉ g.singles) ∧
    (∀ f : FnId, 4 ≤ f.val → allDistinct (g.dataLows (count f) f) = true) ∧
    (∀ f f', f ≠ f' → ∀ o ∈ g.dataLows (count f) f, o ∉ g.dataLows (count f') f') := by
  simp only [GlueRegs.ok, GlueRegs.allDataLows, Bool.and_eq_true, List.all_eq_true, List.any_eq_true, decide_eq_true_eq,
    List.mem_range, List.contains_iff_mem, Bool.or_eq_true, Bool.not_eq_true', List.mem_finRange, forall_true_left,
    List.mem_flatMap, List.mem_map, true_and, forall_exists_index] at h
  obtain ⟨⟨⟨⟨⟨⟨⟨⟨⟨h1, h2⟩, h3⟩, h4⟩, h5⟩, h6⟩, h7⟩, h8⟩, h9⟩, h10⟩ := h
  refine ⟨h1, h2, h3, h4, h5, h6, h7, fun f l => ?_, fun f hf => (h9 f).resolve_left (by omega), fun f f' hf o ho => ?_⟩
  · have := h8 _ f l rfl
    exact ⟨this.1, by simpa using this.2⟩
  · rcases h10 f f' with h | h
    · exact absurd h hf
    · simpa using h o ho

/-- No two positions of a duplicate-free list hold the same word. -/
theorem allDistinct_nodup {l : List Word} (h : allDistinct l = true) : l.Nodup := by
  induction l with
  | nil => exact List.nodup_nil
  | cons x xs ih =>
    simp only [allDistinct, Bool.and_eq_true, Bool.not_eq_true'] at h
    exact List.nodup_cons.2 ⟨by simpa using h.1, ih h.2⟩

/-- Two registers at different places of `GlueRegs.singles` have different offsets (R75). -/
theorem singles_ne {g : GlueRegs} {count : FnId → Nat} (h : g.ok count = true) {i j : Nat} {a b : Word} (hij : i ≠ j)
    (ha : g.singles[i]? = some a) (hb : g.singles[j]? = some b) : a ≠ b := by
  rintro rfl
  obtain ⟨-, -, -, -, -, -, h7, -⟩ := glueRegs_ok_cases h
  exact hij ((List.getElem?_inj (List.getElem?_eq_some_iff.1 ha).1 (allDistinct_nodup h7)).1 (ha.trans hb.symm))

@[simp] theorem singles_glueEn (g : GlueRegs) : g.singles[0]? = some g.glueEn := rfl
@[simp] theorem singles_ackWr (g : GlueRegs) : g.singles[1]? = some g.ackWr := rfl
@[simp] theorem singles_ackRd (g : GlueRegs) : g.singles[2]? = some g.ackRd := rfl
theorem singles_maskReg (g : GlueRegs) (f : FnId) : g.singles[3 + 3 * f.val]? = some (g.maskReg f) := by
  fin_cases f <;> rfl
theorem singles_addrReg (g : GlueRegs) (f : FnId) : g.singles[4 + 3 * f.val]? = some (g.addrReg f) := by
  fin_cases f <;> rfl
theorem singles_dataHiReg (g : GlueRegs) (f : FnId) : g.singles[5 + 3 * f.val]? = some (g.dataHiReg f) := by
  fin_cases f <;> rfl

/-- The registers WRMSG writes, and the mask registers, are pairwise apart (R75, R135). -/
theorem wrmsg_registers_apart {g : GlueRegs} {count : FnId → Nat} (h : g.ok count = true) (f : FnId) (l : SubId) :
    g.glueEn ≠ g.addrReg f ∧ g.glueEn ≠ g.dataHiReg f ∧ g.addrReg f ≠ g.dataHiReg f ∧
    (∀ f', g.maskReg f' ≠ g.glueEn ∧ g.maskReg f' ≠ g.addrReg f ∧ g.maskReg f' ≠ g.dataHiReg f) ∧
    ∀ o ∈ g.singles, g.dataLoReg f l ≠ o := by
  obtain ⟨-, -, -, -, -, -, -, h8, -⟩ := glueRegs_ok_cases h
  refine ⟨?_, ?_, ?_, fun f' => ⟨?_, ?_, ?_⟩, fun o ho he => (h8 f l).2 (he ▸ ho)⟩
  · exact singles_ne h (by omega) (singles_glueEn g) (singles_addrReg g f)
  · exact singles_ne h (by omega) (singles_glueEn g) (singles_dataHiReg g f)
  · exact singles_ne h (by omega) (singles_addrReg g f) (singles_dataHiReg g f)
  · exact singles_ne h (by omega) (singles_maskReg g f') (singles_glueEn g)
  · exact singles_ne h (by omega) (singles_maskReg g f') (singles_addrReg g f)
  · exact singles_ne h (by omega) (singles_maskReg g f') (singles_dataHiReg g f)

/-- Every admitted offset is 4-aligned (R63). -/
theorem admits_aligned {g : GlueRegs} {o : Word} (h : g.admits o = true) : o.extractLsb' 0 2 = 0 := by
  simp only [GlueRegs.admits, Bool.and_eq_true, decide_eq_true_eq] at h
  exact h.1

end Sys2Proof
end

