-- ==== Sys2Proof/Laws/PerInstr.lean ====
section
/-! SUPPORT. Statements made instruction by instruction. -/

namespace Sys2Proof.Laws.WordCount

/-- An instruction is one header and as many operand words as its opcode takes; an event is one word (R80, R83, R90). -/
def Statement (i : Instr) : Prop :=
  (encode i).length = 1 + (operandCount (opcodeOf i)).getD 0

theorem rd32 (off : Word) : Statement (.rd32 off) := rfl
theorem wr32 (off val : Word) : Statement (.wr32 off val) := rfl
theorem setm (off mask : Word) : Statement (.setm off mask) := rfl
theorem clrm (off mask : Word) : Statement (.clrm off mask) := rfl
theorem maskset (off clr set : Word) : Statement (.maskset off clr set) := rfl
theorem alloc (fn sf : BitVec 8) (virq : Word) : Statement (.alloc fn sf virq) := rfl
theorem compose (virq : Word) : Statement (.compose virq) := rfl
theorem wrmsg (virq addr data : Word) : Statement (.wrmsg virq addr data) := rfl
theorem mask (virq : Word) : Statement (.mask virq) := rfl
theorem unmask (virq : Word) : Statement (.unmask virq) := rfl
theorem free (virq : Word) : Statement (.free virq) := rfl
theorem assign (fn : BitVec 8) (n g : Word) : Statement (.assign fn n g) := rfl
theorem freei (fn : BitVec 8) : Statement (.freei fn) := rfl
theorem dbuild (fn : BitVec 8) : Statement (.dbuild fn) := rfl
theorem dbuildall : Statement .dbuildall := rfl
theorem dtear : Statement .dtear := rfl
theorem dlookup (fn sf : BitVec 8) : Statement (.dlookup fn sf) := rfl
theorem ginit : Statement .ginit := rfl
theorem gdeinit : Statement .gdeinit := rfl
theorem suspend : Statement .suspend := rfl
theorem resume : Statement .resume := rfl
theorem allocb (fn : BitVec 8) (virq : Word) : Statement (.allocb fn virq) := rfl
theorem edge (h : Word) : Statement (.edge h) := rfl

end Sys2Proof.Laws.WordCount
end

