-- ==== Sys2Proof/Laws/Step.lean ====
section
/-! SUPPORT. What one step can do: the arms of `exec`, a requester's step, the environment's step and the step itself. -/

namespace Sys2Proof.Machine

@[simp] theorem exec_rd32 (off : Word) (s : State) : exec (.rd32 off) s = .next (readReg Config.env off s) := rfl
@[simp] theorem exec_wr32 (off v : Word) (s : State) : exec (.wr32 off v) s = .next (writeReg Config.env off v s) := rfl
@[simp] theorem exec_setm (off m : Word) (s : State) : exec (.setm off m) s = .next (setMask Config.env off m s) := rfl
@[simp] theorem exec_clrm (off m : Word) (s : State) : exec (.clrm off m) s = .next (clearMask Config.env off m s) := rfl
@[simp] theorem exec_maskset (off c t : Word) (s : State) :
    exec (.maskset off c t) s = .next (maskAndSet Config.env off c t s) := rfl
@[simp] theorem exec_alloc (fn sf : BitVec 8) (v : Word) (s : State) :
    exec (.alloc fn sf v) s = .next (allocate Config.env fn sf v s) := rfl
@[simp] theorem exec_allocb (fn : BitVec 8) (v : Word) (s : State) :
    exec (.allocb fn v) s = .next (allocate Config.env fn 0x1F v s) := rfl
@[simp] theorem exec_compose (v : Word) (s : State) : exec (.compose v) s = .next (composeMsg Config.env v s) := rfl
@[simp] theorem exec_wrmsg (v a d : Word) (s : State) :
    exec (.wrmsg v a d) s = .next (writeMsg Config.env v a d s) := rfl
@[simp] theorem exec_mask (v : Word) (s : State) : exec (.mask v) s = .next (maskLine Config.env v s) := rfl
@[simp] theorem exec_unmask (v : Word) (s : State) : exec (.unmask v) s = .next (unmaskLine Config.env v s) := rfl
@[simp] theorem exec_free (v : Word) (s : State) : exec (.free v) s = .next (releaseLine Config.env v s) := rfl
@[simp] theorem exec_assign (fn : BitVec 8) (n g : Word) (s : State) :
    exec (.assign fn n g) s = .next (assignVectors Config.env fn n g s) := rfl
@[simp] theorem exec_freei (fn : BitVec 8) (s : State) : exec (.freei fn) s = .next (freeVectors fn s) := rfl
@[simp] theorem exec_dbuild (fn : BitVec 8) (s : State) : exec (.dbuild fn) s = .next (buildOne Config.env fn s) := rfl
@[simp] theorem exec_dbuildall (s : State) : exec .dbuildall s = .next (buildAll Config.env s) := rfl
@[simp] theorem exec_dtear (s : State) : exec .dtear s = .next (tearDown Config.env s) := rfl
@[simp] theorem exec_dlookup (fn sf : BitVec 8) (s : State) : exec (.dlookup fn sf) s = .next (queryLookup fn sf s) := rfl
@[simp] theorem exec_ginit (s : State) : exec .ginit s = .next (initGlue Config.env s) := rfl
@[simp] theorem exec_gdeinit (s : State) : exec .gdeinit s = .next (deinitGlue Config.env s) := rfl
@[simp] theorem exec_suspend (s : State) : exec .suspend s = .next (s.respond .ok []) := rfl
@[simp] theorem exec_resume (s : State) : exec .resume s = .next (s.respond .ok []) := rfl
@[simp] theorem exec_edge (h : Word) (s : State) : exec (.edge h) s = .next (acceptEdge Config.env h s) := rfl

/-- No instruction stops the machine. -/
theorem exec_next (i : Instr) (s : State) : ∃ t, exec i s = .next t := by
  cases i <;> exact ⟨_, rfl⟩

/-- A requester's step: nothing to do, one more step of a command, a new command, or an illegal header. -/
theorem stepRequester_cases {r : Nat} {s t : State} (h : stepRequester r s = .next t) :
    t = s ∨
    (∃ p w, s.ports[r]? = some p ∧ p.work = some w ∧ t = resumeWork Config.env w s) ∨
    (∃ p i rest, s.ports[r]? = some p ∧ p.work = none ∧ decode p.words = .command i rest ∧
      exec i (s.takeWords r rest) = .next t) ∨
    (∃ p hd rest, s.ports[r]? = some p ∧ p.work = none ∧ decode p.words = .illegal hd rest ∧
      t = (s.takeWords r rest).raise .illegalCommand hd) := by
  unfold stepRequester at h
  split at h
  · exact .inl (by simpa using h.symm)
  · next p hp =>
    split at h
    · next w hw => exact .inr (.inl ⟨p, w, hp, hw, by simpa using h.symm⟩)
    · next hw =>
      split at h
      · next i rest hd => exact .inr (.inr (.inl ⟨p, i, rest, hp, hw, hd, h⟩))
      · next hh rest hd => exact .inr (.inr (.inr ⟨p, hh, rest, hp, hw, hd, by simpa using h.symm⟩))
      · exact .inl (by simpa using h.symm)

/-- The environment's step: nothing, a word, an event, or the creation of the instance; removal has no next state. -/
theorem stepEnvironment_cases {a : Arrival} {s t : State} (h : stepEnvironment a s = .next t) :
    (a = .quiet ∧ t = s) ∨
    (∃ r w, a = .word r w ∧ t = s.onPort r fun p => { p with words := p.words ++ [w] }) ∨
    (∃ ev, a = .edge ev ∧ t = acceptEdge Config.env ev s) ∨
    (a = .create ∧ t = s.create) := by
  cases a with
  | quiet => exact .inl ⟨rfl, by simpa [stepEnvironment] using h.symm⟩
  | word r w => exact .inr (.inl ⟨r, w, rfl, by simpa [stepEnvironment] using h.symm⟩)
  | edge ev => exact .inr (.inr (.inl ⟨ev, rfl, by simpa [stepEnvironment] using h.symm⟩))
  | create => exact .inr (.inr (.inr ⟨rfl, by simpa [stepEnvironment] using h.symm⟩))
  | remove => simp [stepEnvironment] at h

/-- A step is the turn's step, then the schedule. -/
theorem step_eq_next_iff (s t : State) :
    step s = .next t ↔ ∃ u, stepTurn s.turn s = .next u ∧ t = u.advance Config.env := by
  unfold step
  constructor
  · intro h
    split at h
    · next u hu => exact ⟨u, hu, by simpa using h.symm⟩
    · simp at h
    · simp at h
  · rintro ⟨u, hu, rfl⟩
    simp [hu]

/-- A step that goes on was a requester's, a demux agent's, the default agent's or the environment's. -/
theorem step_cases {s t : State} (h : step s = .next t) :
    ∃ u, t = u.advance Config.env ∧
      ((∃ r, s.turn = .req r ∧ stepRequester r s = .next u) ∨
       (∃ g, s.turn = .dmx g ∧ u = stepDemux Config.env g s) ∨
       (s.turn = .dflt ∧ u = stepDefault Config.env s) ∨
       (∃ a, s.turn = .env a ∧ stepEnvironment a s = .next u)) := by
  obtain ⟨u, hu, rfl⟩ := (step_eq_next_iff s t).1 h
  refine ⟨u, rfl, ?_⟩
  cases ht : s.turn with
  | req r => rw [ht] at hu; exact .inl ⟨r, rfl, hu⟩
  | dmx g => rw [ht] at hu; exact .inr (.inl ⟨g, rfl, by simpa [stepTurn] using hu.symm⟩)
  | dflt => rw [ht] at hu; exact .inr (.inr (.inl ⟨rfl, by simpa [stepTurn] using hu.symm⟩))
  | env a => rw [ht] at hu; exact .inr (.inr (.inr ⟨a, rfl, hu⟩))

end Sys2Proof.Machine
end

