-- ==== Sys2Proof/Tests/Slice0.lean ====
section
/-! SUPPORT. Small tests on the reference configuration REF, whose expected values are those of 95_test_vectors.md or are
worked by hand from a rule of spec/, and for each obligation with hypotheses a theorem that something meets them. -/

namespace Sys2Proof.Tests

set_option Elab.async false

open Sys2Proof.Machine

/-! ## Ill-formed terms -/

/-- R89: the header of ALLOC f, 31 is spelled ALLOCB. -/
theorem test_alloc_broadcast_ill_formed :
    (Instr.alloc 7 0x1F 40).wellFormed = false ∧ (Instr.alloc 7 1 40).wellFormed = true ∧
    (Instr.allocb 7 40).wellFormed = true := by decide

/-- R87: an event word with bit 5 or bit 16 set has not the event format. -/
theorem test_edge_ill_formed :
    (Instr.edge 0x00000720).wellFormed = false ∧ (Instr.edge 0x00010000).wellFormed = false ∧
    (Instr.edge 0x00000702).wellFormed = true := by decide

/-! ## Decoding: the words are written out from R83 and 95_test_vectors.md section 2.1 and section 3 -/

theorem test_decode_register_access :
    decode [0x01000000, 0x100] = .command (.rd32 0x100) [] ∧
    decode [0x02000000, 0x100, 0x12345670] = .command (.wr32 0x100 0x12345670) [] ∧
    decode [0x03000000, 0x100, 0xF] = .command (.setm 0x100 0xF) [] ∧
    decode [0x04000000, 0x100, 0xFF000000] = .command (.clrm 0x100 0xFF000000) [] ∧
    decode [0x05000000, 0x100, 0xFFFF, 0x1] = .command (.maskset 0x100 0xFFFF 0x1) [] := by decide

theorem test_decode_lines :
    decode [0x10070200, 0x2A] = .command (.alloc 7 2 42) [] ∧
    decode [0x10051F00, 0x3C] = .command (.allocb 5 60) [] ∧
    decode [0x11000000, 0x29] = .command (.compose 41) [] ∧
    decode [0x12000000, 0x29, 0xFEE00000, 0x1] = .command (.wrmsg 41 0xFEE00000 1) [] ∧
    decode [0x13000000, 0x28] = .command (.mask 40) [] ∧
    decode [0x14000000, 0x29] = .command (.unmask 41) [] ∧
    decode [0x15000000, 0x28] = .command (.free 40) [] ∧
    decode [0x16050000, 0x2, 0x1] = .command (.assign 5 2 1) [] ∧
    decode [0x17070000] = .command (.freei 7) [] := by decide

theorem test_decode_domains :
    decode [0x20040000] = .command (.dbuild 4) [] ∧
    decode [0x21000000] = .command .dbuildall [] ∧
    decode [0x22000000] = .command .dtear [] ∧
    decode [0x23070200] = .command (.dlookup 7 2) [] := by decide

theorem test_decode_glue_control :
    decode [0x30000000] = .command .ginit [] ∧
    decode [0x31000000] = .command .gdeinit [] ∧
    decode [0x32000000] = .command .suspend [] ∧
    decode [0x33000000] = .command .resume [] := by decide

/-- The event of 95_test_vectors.md P3, step 7, through the table's numbering; and words no instruction has. -/
theorem test_decode_table_words :
    decodeTableWord 32 0x00000700 = some (.edge 0x700) ∧
    decodeTableWord 32 0x20040000 = some (.dbuild 4) ∧
    decodeTableWord 64 0x0000002810070100 = some (.alloc 7 1 40) ∧
    decodeTableWord 32 0x06000000 = none := by decide

/-- R84: the illegal headers of 95_test_vectors.md section 2.1, and the ends of the unlisted ranges. -/
theorem test_decode_illegal :
    decode [0x00000000] = .illegal 0x00000000 [] ∧
    decode [0x01000001, 5] = .illegal 0x01000001 [5] ∧
    decode [0x01010000] = .illegal 0x01010000 [] ∧
    decode [0x16070100] = .illegal 0x16070100 [] ∧
    decode [0x0F000000] = .illegal 0x0F000000 [] ∧
    decode [0x18000000] = .illegal 0x18000000 [] ∧
    decode [0x24000000] = .illegal 0x24000000 [] ∧
    decode [0x34000000] = .illegal 0x34000000 [] := by decide

/-- R80: a legal header whose operand words have not all come is no command yet. -/
theorem test_decode_short : decode [] = .short ∧ decode [0x12000000, 0x29, 0xFEE00000] = .short := by decide

/-! ## Pure functions: 95_test_vectors.md section 2.2 -/

theorem test_hwirq :
    encHwirq 7 2 = 0x702 ∧ encHwirq 4 31 = 0x41F ∧ encHwirq 0 0 = 0 ∧
    decHwirq 0x41F = some (4, 31) ∧ decHwirq 0x720 = none ∧ decHwirq 0x10000 = none ∧ decHwirq 0x800 = none ∧
    decHwirq 0xFFFFFFFF = none := by decide

theorem test_mask_bits :
    maskBits 3 2 = 0x4 ∧ maskBits 31 30 = 0x40000000 ∧ maskBits 31 31 = 0x7FFFFFFF ∧ maskBits 1 31 = 0x1 ∧
    maskBits 2 31 = 0x3 := by decide

theorem test_compute_pending :
    computePending 0x00020000 0x7 0x10 = 0x5 ∧ computePending 0x00050000 0x7 0x10 = 0x2 ∧
    computePending 0x00070000 0x7 0x10 = 0x0 ∧ computePending 0xFFF8FFFF 0x7 0x10 = 0x7 ∧
    computePending 0x00000001 0x3 0 = 0x2 ∧ computePending 0x7FFFFFFF 0xFFFFFFFF 0 = 0x80000000 ∧
    computePending 0x12345678 0xFFFFFFFF 0 = 0xEDCBA987 := by decide

/-- R137, 95_test_vectors.md section 2.4, the REF data-low offsets. -/
theorem test_data_low_offsets :
    GlueRegs.ref.dataLoReg 2 0 = 0x408 ∧ GlueRegs.ref.dataLoReg 3 31 = 0x40C ∧ GlueRegs.ref.dataLoReg 4 5 = 0x494 ∧
    GlueRegs.ref.dataLoReg 5 31 = 0x57C ∧ GlueRegs.ref.dataLoReg 6 0 = 0x580 ∧
    GlueRegs.ref.dataLoReg 7 2 = 0x608 := by decide

/-- R63, R75, R137: a configuration is ill-formed if a data-low offset that no line uses is not admitted, if two used
data-low registers of function 5 coincide, or if one is a mask register; a function below 4 may share one (REF). Nor may there be no requester (R8), nor a `USB_SHIFT`
other than 0x10 (R191). -/
theorem test_configuration_checks :
    let count : FnId → Nat := fun f => [1, 1, 1, 1, 31, 2, 1, 3][f]
    GlueRegs.ref.ok count = true ∧ GlueRegs.ref.ok (fun _ => 31) = true ∧
    { GlueRegs.ref with dataLoReg := fun f s => if f = 7 ∧ s = 9 then 2 else GlueRegs.ref.dataLoReg f s }.ok count = false ∧
    { GlueRegs.ref with dataLoReg := fun f s => GlueRegs.ref.dataLoReg f (if f = 5 then 0 else s) }.ok count = false ∧
    { GlueRegs.ref with dataLoReg := fun f s => if f = 6 then 0x100 else GlueRegs.ref.dataLoReg f s }.ok count = false ∧
    { Params.ref .A with numReq := 0 }.ok = false ∧ { Params.ref .A with usbShift := 0 }.ok = false := by decide +kernel

/-- R224: info words of 95_test_vectors.md sections 2.4 and 2.5. -/
theorem test_info_words :
    argInfo 8 0 = 0x08000000 ∧ argInfo 7 0x20 = 0x07000020 ∧ controlInfo 0x20 2 = 0x20000002 ∧
    opcInfo 0x31 = 0x31 := by decide

/-- R86: the response to COMPOSE 41 with `SLOT[1] = 41`, as words. -/
theorem test_response_words :
    Response.toWords { status := .ok, results := [0xFEE00000, 1] } = [0x00000000, 0xFEE00000, 0x00000001] ∧
    Response.toWords { status := .reentry, results := [] } = [0x88] := by decide

/-! ## One command on REF -/

/-- REF on variant B with the draws of 95_test_vectors.md's T-DMX-1. -/
def refEnv : Env where
  par := Params.ref .B
  nextTurn _ := .req 0
  ackValue _ := 0x00020000
  remapPresent _ := false
  createOk _ _ := true
  pick _ := 0
  freeLine _ := Line.zero
  freeVariant _ := .B
  freeWin _ := 0

/-- REF with every secondary but function 2 created, and the remapping domain present. -/
def failEnv : Env := { refEnv with createOk := fun _ f => decide (f ≠ 2), remapPresent := fun _ => true }

/-- After reset, with requester 0's turn. -/
def fresh : State := { State.reset with turn := .req 0 }

/-- After GINIT on variant B. -/
def inited : State := { fresh with glueInit := true, variantLatch := .B, glueWin := 1 }

/-- After GINIT and DBUILDALL, all Built. -/
def base : State := { inited with dom := Vector.replicate 8 .built, domParent := Vector.replicate 8 .vector }

/-- `s` with one live line in slot `i`. -/
def withLive (s : State) (i : SlotIx) (f : FnId) (l : SubId) (virq b : Word) (st : LineState) (busy : Bool := false) :
    State :=
  { s with
    slots := s.slots.set i (some virq)
    lines := s.lines.set i { f := f, s := l, virq := virq, mbits := b, st := st, busy := busy } }

/-- The line 41 = (7, 0) in slot 1. -/
def line41 (st : LineState) (busy : Bool := false) : State := withLive base 1 7 0 41 1 st busy

/-- `s` with a glue register set, the launch contents being zero. -/
def withReg (s : State) (off v : Word) : State := { s with mem := memPutWord (fun _ => 0) s.mem off v }

/-- The register at `off`, the launch contents being zero. -/
def reg (s : State) (off : Word) : Word := memWord (fun _ => 0) s.mem off

/-- The last response on port 0, as words. -/
def said (s : State) : List Word := ((s.ports.head?.bind fun p => p.responses.getLast?).map Response.toWords).getD []

/-- The fault record. -/
def flt (s : State) : BitVec 8 × Word × Word := (s.fltCode, s.fltInfo, s.fltCount)

/-- 95_test_vectors.md section 2.3. -/
theorem test_rd32 : said (readReg refEnv 0x100 (withReg base 0x100 0x12345678)) = [0, 0x12345678] ∧
    said (readReg refEnv 0x704 base) = [0, 0x00020000] := by decide +kernel

/-- Section 2.3: a misaligned offset, the first offset past the window, and the last admitted one. -/
theorem test_rd32_bad_offset : flt (readReg refEnv 0x102 base) = (0x81, 0x102, 1) ∧
    flt (readReg refEnv 0x1000 base) = (0x81, 0x1000, 1) ∧ said (readReg refEnv 0xFFC base) = [0, 0] ∧
    flt (readReg refEnv 0x100 fresh) = (0x82, 0x01, 1) := by decide +kernel

/-- Section 2.3; the bytes are little-endian (R66). -/
theorem test_wr32 : reg (writeReg refEnv 0x100 0x12345670 base) 0x100 = 0x12345670 ∧
    memByte (fun _ => 0) (writeReg refEnv 0x100 0x12345670 base).mem 0x100 = 0x70 ∧
    said (writeReg refEnv 0x100 0x12345670 base) = [0] := by decide +kernel

/-- Section 2.3. -/
theorem test_setm : reg (alone refEnv 0 1 (setMask refEnv 0x100 0xF (withReg base 0x100 0x12345670))) 0x100 =
    0x1234567F := by decide +kernel

/-- Section 2.3, the lost update: the write between the two steps is lost. -/
theorem test_setm_lost_update :
    reg (alone refEnv 0 1 (withReg (setMask refEnv 0x100 0x1 base) 0x100 0xF0)) 0x100 = 0x1 := by decide +kernel

/-- Section 2.3. -/
theorem test_clrm : reg (alone refEnv 0 1 (clearMask refEnv 0x100 0xFF000000 (withReg base 0x100 0x1234567F))) 0x100 =
    0x0034567F := by decide +kernel

/-- Section 2.3: the set wins on overlap. -/
theorem test_maskset :
    reg (alone refEnv 0 1 (maskAndSet refEnv 0x100 0xFFFF 0x1 (withReg base 0x100 0x0034567F))) 0x100 = 0x00340001 ∧
    reg (alone refEnv 0 1 (maskAndSet refEnv 0x100 0xF0 0x30 (withReg base 0x100 0xFFFFFFFF))) 0x100 = 0xFFFFFF3F := by
  decide +kernel

/-- Section 2.4. -/
theorem test_alloc : said (allocate refEnv 7 1 40 base) = [0, 0] ∧ (allocate refEnv 7 1 40 base).slots[0] = some 40 ∧
    (allocate refEnv 7 1 40 base).lines[0] =
      { f := 7, s := 1, virq := 40, mbits := 2, st := .unconfigured, busy := false } := by decide +kernel

/-- Section 2.4: the faults and the error, in the check order. -/
theorem test_alloc_checks :
    flt (allocate refEnv 8 0 1 base) = (0x83, 0x08000000, 1) ∧ flt (allocate refEnv 7 3 1 base) = (0x83, 0x07000003, 1) ∧
    said (allocate refEnv 7 0 1 inited) = [0x07] ∧
    flt (allocate refEnv 5 0 41 (line41 .masked)) = (0x84, 41, 1) ∧
    flt (allocate refEnv 7 0 42 (line41 .masked)) = (0x85, 0x700, 1) ∧
    flt (allocate refEnv 7 2 41 { base with mode := base.mode.set 7 (.perSub 2) }) = (0x8B, 0x07000002, 1) ∧
    flt (allocate refEnv 5 0 41 { base with mode := base.mode.set 5 .broadcast }) = (0x8B, 0x05000000, 1) := by
  decide +kernel

/-- Section 2.4 and P4. -/
theorem test_allocb : (allocate refEnv 5 0x1F 60 base).lines[0] =
      { f := 5, s := 31, virq := 60, mbits := 3, st := .unconfigured, busy := false } ∧
    flt (allocate refEnv 7 0x1F 42 (line41 .masked)) = (0x85, 0x71F, 1) := by decide +kernel

/-- Section 2.4: the table full. -/
theorem test_alloc_exhausted :
    said (allocate refEnv 4 0 1000 { base with slots := Vector.replicate 100 (some 1) }) = [0x04] := by decide +kernel

/-- Section 2.4. -/
theorem test_compose : said (composeMsg refEnv 41 (line41 .masked)) = [0, 0xFEE00000, 1] ∧
    flt (composeMsg refEnv 99 (line41 .masked)) = (0x8A, 0x63, 1) := by decide +kernel

/-- Section 2.4: the degraded default, which wraps at virq 0. -/
theorem test_compose_fallback : said (composeMsg refEnv 40 fresh) = [0, 0xFEE00000, 0x27] ∧
    said (composeMsg refEnv 0 fresh) = [0, 0xFEE00000, 0xFFFFFFFF] ∧
    (composeMsg refEnv 40 fresh).diagFallback = 1 := by decide +kernel

/-- Section 2.4: WRMSG 41, 0xFEE00000, 0x00120034, its seven steps. -/
theorem test_wrmsg :
    let t := alone refEnv 0 6 (writeMsg refEnv 41 0xFEE00000 0x00120034 (line41 .unconfigured))
    reg t 0x21C = 0xFEE00000 ∧ reg t 0x31C = 0x12 ∧ reg t 0x600 = 0x34 ∧ reg t 0 = 1 ∧ t.lines[1].st = .masked ∧
    t.lines[1].busy = false ∧ said t = [0] ∧ t.gbLog.length = 7 := by decide +kernel

/-- Section 2.4 and T-SRC-8: the zero address makes no access, the unknown virq faults first; and Re-entry. -/
theorem test_wrmsg_zero_address :
    (writeMsg refEnv 41 0 0x12345678 (line41 .masked)).mem = [] ∧
    said (writeMsg refEnv 41 0 5 (line41 .masked)) = [0] ∧
    flt (writeMsg refEnv 99 0 0 (line41 .masked)) = (0x86, 0x63, 1) ∧
    flt (maskLine refEnv 41 (writeMsg refEnv 41 0xFEE00000 1 (line41 .masked))) = (0x88, 0x29, 1) := by decide +kernel

/-- Section 2.4. -/
theorem test_mask :
    let t := alone refEnv 0 1 (maskLine refEnv 41 (withReg (line41 .unmasked) 0x11C 0x7))
    reg t 0x11C = 0x6 ∧ t.lines[1].st = .masked ∧ said t = [0] := by decide +kernel

/-- Section 2.4: an Unconfigured line stays so, the register write is performed. -/
theorem test_mask_unconfigured :
    let t := alone refEnv 0 1 (maskLine refEnv 41 (withReg (line41 .unconfigured) 0x11C 0x3))
    reg t 0x11C = 0x2 ∧ t.lines[1].st = .unconfigured := by decide +kernel

/-- Section 2.4. -/
theorem test_unmask :
    let t := alone refEnv 0 1 (unmaskLine refEnv 41 (line41 .masked))
    reg t 0x11C = 0x1 ∧ t.lines[1].st = .unmasked ∧
    flt (unmaskLine refEnv 41 (line41 .unconfigured)) = (0x87, 0x29, 1) := by decide +kernel

/-- Section 2.4: the broadcast line 60 = (5, 31). -/
theorem test_unmask_broadcast :
    reg (alone refEnv 0 1 (unmaskLine refEnv 60 (withLive base 0 5 31 60 3 .masked))) 0x114 = 0x3 := by decide +kernel

/-- Section 2.4. -/
theorem test_free : (releaseLine refEnv 41 (line41 .masked)).slots[1] = none ∧
    (releaseLine refEnv 41 (line41 .masked)).gbLog = [] ∧
    flt (releaseLine refEnv 41 (line41 .unmasked)) = (0x87, 0x29, 1) := by decide +kernel

/-- Section 2.4. -/
theorem test_assign : said (assignVectors refEnv 7 2 5 base) = [0, 2] ∧
    (assignVectors refEnv 7 2 5 base).mode[7] = .perSub 2 ∧ (assignVectors refEnv 7 2 5 base).grant[7] = 2 ∧
    said (assignVectors refEnv 5 2 1 base) = [0, 1] ∧ (assignVectors refEnv 5 2 1 base).mode[5] = .broadcast := by
  decide +kernel

/-- Section 2.4. -/
theorem test_assign_checks : said (assignVectors refEnv 7 3 0 base) = [0x08] ∧
    flt (assignVectors refEnv 7 0 1 base) = (0x83, 0x07000000, 1) ∧
    flt (assignVectors refEnv 7 4 4 base) = (0x83, 0x07000004, 1) ∧
    flt (assignVectors refEnv 7 3 3 { base with mode := base.mode.set 7 (.perSub 3) }) = (0x8B, 0x07000003, 1) := by
  decide +kernel

/-- Section 2.4. -/
theorem test_freei : flt (freeVectors 7 (line41 .masked)) = (0x8B, 0x07000000, 1) ∧
    (freeVectors 7 { base with mode := base.mode.set 7 (.perSub 3), grant := base.grant.set 7 3 }).mode[7] = .none ∧
    (freeVectors 7 { base with mode := base.mode.set 7 (.perSub 3), grant := base.grant.set 7 3 }).grant[7] = 0 := by
  decide +kernel

/-- Section 2.5. -/
theorem test_dbuild : said (buildOne refEnv 7 inited) = [0x06] ∧ said (buildOne failEnv 4 inited) = [0] ∧
    (buildOne failEnv 4 inited).dom[4] = .built ∧ (buildOne failEnv 4 inited).domParent[4] = .remap := by decide +kernel

/-- Section 2.5. -/
theorem test_dbuild_fails :
    said (buildOne failEnv 2 { inited with dom := inited.dom.set 4 .built }) = [0x03] ∧
    (buildOne failEnv 2 { inited with dom := inited.dom.set 4 .built }).dom[2] = .failed ∧
    flt (buildOne refEnv 2 { inited with dom := inited.dom.set 2 .failed }) = (0x89, 0x20000002, 1) ∧
    flt (buildOne refEnv 9 inited) = (0x83, 0x09000000, 1) := by decide +kernel

/-- Section 2.5: every function but 2 created. -/
theorem test_dbuildall : said (buildAll failEnv inited) = [0, 0x4] ∧ (buildAll failEnv inited).dom[2] = .failed ∧
    (buildAll failEnv inited).dom[0] = .built ∧ (buildAll failEnv inited).domParent[7] = .remap := by decide +kernel

/-- Section 2.5: the primary fails; a domain begun. -/
theorem test_dbuildall_fails :
    said (buildAll { refEnv with createOk := fun _ f => decide (f ≠ 4) } inited) = [0x02] ∧
    (buildAll { refEnv with createOk := fun _ f => decide (f ≠ 4) } inited).dom = inited.dom ∧
    flt (buildAll refEnv { inited with dom := inited.dom.set 0 .built }) = (0x89, 0x21000000, 1) := by decide +kernel

/-- Section 2.5; the primary is destroyed last (R175). -/
theorem test_dtear : (tearDown refEnv base).dom = Vector.replicate 8 .unbuilt ∧
    (tearDown refEnv base).pdLog = [7, 6, 5, 3, 2, 1, 0, 4].map .destroyDomain ∧
    flt (tearDown refEnv (line41 .masked)) = (0x89, 0x22000000, 1) := by decide +kernel

/-- Section 2.5. -/
theorem test_dlookup : said (queryLookup 7 0 (line41 .masked)) = [0, 1, 41] ∧
    said (queryLookup 7 1 (line41 .masked)) = [0, 0, 0] ∧
    flt (queryLookup 7 32 (line41 .masked)) = (0x83, 0x07000020, 1) := by decide +kernel

/-- Section 2.7. -/
theorem test_ginit : (initGlue refEnv fresh).glueInit = true ∧ (initGlue refEnv fresh).variantLatch = .B ∧
    (initGlue refEnv fresh).glueWin = 1 ∧ flt (initGlue refEnv inited) = (0x89, 0x30000000, 1) := by decide +kernel

/-- Section 2.7. -/
theorem test_gdeinit : (deinitGlue refEnv inited).glueInit = false ∧ said (deinitGlue refEnv inited) = [0] ∧
    flt (deinitGlue refEnv base) = (0x89, 0x31000000, 1) ∧ flt (deinitGlue refEnv fresh) = (0x82, 0x31, 1) := by
  decide +kernel

/-- R212, R213: OK in any state, nothing changed but the response. -/
theorem test_suspend_resume :
    (∃ t, exec .suspend fresh = .next t ∧ said t = [0] ∧ { t with ports := fresh.ports } = fresh) ∧
    (∃ t, exec .resume fresh = .next t ∧ said t = [0] ∧ { t with ports := fresh.ports } = fresh) :=
  ⟨⟨_, rfl, by decide +kernel, rfl⟩, _, rfl, by decide +kernel, rfl⟩

/-- Section 2.6: where an event goes. -/
theorem test_edge : (acceptEdge refEnv 0x700 base).ependG.usb = true ∧ (acceptEdge refEnv 0x300 base).ependH = [0x300] ∧
    (acceptEdge refEnv 0x720 base).diagSpurious = 1 ∧ (acceptEdge refEnv 0x800 base).diagSpurious = 1 ∧
    (acceptEdge refEnv 0x700 fresh).ependH = [0x700] ∧
    (acceptEdge refEnv 0x300 (acceptEdge refEnv 0x300 base)).ependH = [0x300] := by decide +kernel

/-- T-DMX-1: with ack 0x00020000 exactly bits 0 and 2 are pending after T4, the ack pair was written then read, and the
lock is free again. -/
theorem test_demux_lock_steps :
    let t := stepDemux refEnv .usb (stepDemux refEnv .usb (stepDemux refEnv .usb (stepDemux refEnv .usb
      (acceptEdge refEnv 0x700 base))))
    t.dmx.usb = { phase := .dispatching, pendLeft := 0x5 } ∧ t.ackLock = .free ∧ t.ependG.usb = false ∧
    t.gbLog.map GbAccess.op = [.write 0x700 2, .read 0x704 0x00020000] := by decide +kernel

/-- Section 2.6: a dispatched bit and a skipped one; `route` sends bits to the broadcast line. -/
theorem test_demux_bits :
    (demuxBit refEnv .usb 0 (line41 .unconfigured)).dlog = [{ virq := 41, hwirq := 0x700 }] ∧
    (demuxBit refEnv .usb 2 (line41 .unconfigured)).diagSkip = 1 ∧
    (demuxBit { refEnv with par := { Params.ref .B with broadcastDemux := .route } } .dma 1
      (withLive base 0 5 31 60 3 .masked)).dlog = [{ virq := 60, hwirq := 0x51F }] ∧
    (demuxBit refEnv .glue 31 (withLive base 0 4 31 71 0x7FFFFFFF .masked)).dlog =
      [{ virq := 71, hwirq := 0x41F }] := by decide +kernel

/-- Section 2.6: the default agent. -/
theorem test_default :
    (stepDefault refEnv { withLive base 0 3 0 80 1 .masked with ependH := [0x300] }).dlog =
      [{ virq := 80, hwirq := 0x300 }] ∧
    (stepDefault refEnv { base with ependH := [0x300] }).diagSpurious = 1 ∧
    (stepDefault refEnv { base with ependH := [0x300] }).ependH = [] := by decide +kernel

/-- Section 2.7: the first fault is kept, the count goes up and saturates. -/
theorem test_fault_record :
    flt (readReg refEnv 0x1001 { base with fltCode := 0x81, fltInfo := 0x55, fltCount := 1 }) = (0x81, 0x55, 2) ∧
    satSucc 0xFFFFFFFF = 0xFFFFFFFF := by decide +kernel

/-- The placed word is the one the next step runs: SUSPEND, and an illegal header. -/
theorem test_with_fetch_word :
    (∃ t, step (State.reset.withFetchWord 32 0x32000000) = .next t ∧ said t = [0]) ∧
    (∃ t, step (State.reset.withFetchWord 32 0x01000001) = .next t ∧ flt t = (0x80, 0x01000001, 1)) :=
  ⟨⟨_, rfl, by decide +kernel⟩, _, rfl, by decide +kernel⟩

/-! ## Witnesses: a state and operands that meet the hypotheses of an obligation, one for each of its clauses

The configuration is arbitrary, so a witness is a state in which the hypotheses hold whatever it is. Offset 0 is admitted
and offset 1 is not, in every configuration. Three clauses cannot be met in every configuration, because they need a count
below 31, a count above 1, or one answer of a draw; their witnesses say which. -/

/-- Port 0 with these words waiting and this command in progress. -/
def onCp (s : State) (ws : List Word) (w : Option Work) : State :=
  { s with ports := [{ words := ws, work := w, responses := [] }] }

theorem admitted_zero (s : State) : Admitted s 0 := ⟨by decide, by simp [BitVec.le_def]⟩

theorem not_admitted_one (s : State) : ¬ Admitted s 1 := fun h => absurd h.1 (by decide)

theorem window_boundary (z : Word) (ha : z.extractLsb' 0 2 = 0) (h4 : 4 ≤ z) :
    (z - 4).extractLsb' 0 2 = 0 ∧ ¬ z ≤ z - 4 := by
  have hz : z.toNat % 4 = 0 := by simpa using congrArg BitVec.toNat ha
  have h4' : 4 ≤ z.toNat := by simpa using BitVec.le_def.1 h4
  have hsub : (z - 4).toNat = z.toNat - 4 := by
    rw [BitVec.toNat_sub_of_le h4]; rfl
  refine ⟨?_, ?_⟩
  · apply BitVec.eq_of_toNat_eq
    simp
    omega
  · rw [BitVec.le_def, hsub]
    omega

/-- The boundary of R63: `GLUE_SIZE − 4` is admitted, `GLUE_SIZE` is not. -/
theorem admitted_boundary (s : State) :
    Admitted s ((Config.params.regs s.variantLatch).glueSize - 4) ∧
    ¬ Admitted s (Config.params.regs s.variantLatch).glueSize := by
  obtain ⟨ha, h4, -⟩ := glueRegs_ok_cases (regs_ok s.variantLatch)
  have := window_boundary _ ha h4
  exact ⟨⟨this.1, BitVec.le_refl _⟩, fun h => this.2 h.2⟩

/-- A function outside the three groups. -/
theorem outside_groups : ∃ f : FnId, ∀ g : Group, f ≠ Config.params.funcOf g := by
  have : ∀ a b c : FnId, ∃ f : FnId, f ≠ a ∧ f ≠ b ∧ f ≠ c := by decide
  obtain ⟨f, h1, h2, h3⟩ := this (Config.params.funcOf .glue) (Config.params.funcOf .usb) (Config.params.funcOf .dma)
  exact ⟨f, fun g => by cases g <;> assumption⟩

theorem dec_of_enc (f : FnId) : decHwirq (encHwirq f 0) = some (f, 0) := by
  revert f
  decide

/-- A function other than the primary. -/
theorem other_function : ∃ f : FnId, f ≠ Config.params.primary := by
  have : ∀ a : FnId, ∃ f : FnId, f ≠ a := by decide
  exact this _

theorem holds41 (st : LineState) (b : Bool) : HoldsLine (line41 st b) 41 1 := by
  refine ⟨by cases st <;> cases b <;> decide +kernel, ?_⟩
  cases st <;> cases b <;> decide +kernel

theorem witness_DecodeOfEncode :
    ((Instr.alloc 7 1 40).wellFormed = true ∧ ∀ h, Instr.alloc 7 1 40 ≠ .edge h) ∧
    (Instr.edge 0xFF1F).wellFormed = true := ⟨⟨by decide, fun _ => by simp⟩, by decide⟩

theorem witness_EncodeOfDecode : decode [0x10070100, 40, 9] = .command (.alloc 7 1 40) [9] := by decide

/-- The four cases of R84, an operand word standing behind the header. -/
theorem witness_IllegalHeaderRaises :
    (onCp fresh [0x06000000, 5] none).turn = .req 0 ∧
    (onCp fresh [0x06000000, 5] none).ports[0]? = some { words := [0x06000000, 5], work := none, responses := [] } ∧
    (0x06000000 : Word).extractLsb' 24 8 ∉ ([0x01, 0x02, 0x03, 0x04, 0x05, 0x10, 0x11, 0x12, 0x13, 0x14, 0x15, 0x16,
      0x17, 0x20, 0x21, 0x22, 0x23, 0x30, 0x31, 0x32, 0x33] : List (BitVec 8)) ∧
    (0x01000001 : Word).extractLsb' 0 8 ≠ 0 ∧
    ((0x01010000 : Word).extractLsb' 16 8 ≠ 0 ∧
      (0x01010000 : Word).extractLsb' 24 8 ∉ ([0x10, 0x16, 0x17, 0x20, 0x23] : List (BitVec 8))) ∧
    ((0x16070100 : Word).extractLsb' 8 8 ≠ 0 ∧
      (0x16070100 : Word).extractLsb' 24 8 ∉ ([0x10, 0x23] : List (BitVec 8))) := by decide

/-- A whole command, one in progress, no words, a command cut short, no port; an event, and a word on a port and on none. -/
theorem witness_StepRunsDecoded :
    (fresh.turn = .req 0 ∧ (onCp fresh [0x10070100, 40] none).ports[0]? =
      some { words := [0x10070100, 40], work := none, responses := [] } ∧
      decode [0x10070100, 40] = .command (.alloc 7 1 40) []) ∧
    (onCp fresh [] (some (.setmS2 0 1 0))).ports[0]? = some { words := [], work := some (.setmS2 0 1 0), responses := [] } ∧
    ((∀ h, Instr.alloc 7 1 40 ≠ .edge h) ∧ [] ++ [0x10070100, 40] = encode (.alloc 7 1 40) ∧
      [0x10070100] ++ [40] = encode (.alloc 7 1 40)) ∧
    (onCp fresh [] none).ports[1]? = none ∧
    { fresh with turn := .env (.edge 0x702) }.turn = .env (.edge 0x702) ∧
    { fresh with turn := .env (.word 0 5) }.turn = .env (.word 0 5) ∧ fresh.ports[0]? = some Port.empty ∧
    { fresh with turn := .env .quiet }.turn = .env .quiet :=
  ⟨⟨rfl, rfl, by decide⟩, rfl, ⟨fun _ => by simp, by decide, by decide⟩, rfl, rfl, rfl, rfl, rfl⟩

theorem witness_OnlyRemovalStops : { base with turn := .env .remove }.turn = .env .remove := rfl

/-- In any state: here with a command in progress and a demux run under way. -/
theorem witness_CreationResets :
    { onCp (line41 .masked true) [] (some (.maskS2 1 7 1 0)) with turn := .env .create, ackLock := .held .usb }.turn =
      .env .create := rfl

/-- Both ends of the ranges, and an invalid word for the other direction. -/
theorem witness_HwirqRoundTrip : decHwirq 0 = some (0, 0) ∧ decHwirq 0x71F = some (7, 31) ∧
    ¬ ((0x720 : Word).extractLsb' 16 16 = 0 ∧ (0x720 : Word).extractLsb' 5 3 = 0) := by decide

/-- A concrete line and the broadcast line of function 7, at a bit below every count and at one above every count. -/
theorem witness_MaskBitsExact : (0 : SubId) ≠ 31 ∧ (31 : SubId) = 31 ∧ 0 < Config.params.subfuncCount 7 ∧
    ¬ 31 < Config.params.subfuncCount 7 := by
  have := subfuncCount_bounds 7
  refine ⟨by decide, rfl, by omega, by omega⟩

/-- A bit that comes from the register, and one shifted in at the top. -/
theorem witness_PendingBits : 0x10 + 2 < 32 ∧ ¬ 0x10 + 16 < 32 ∧ 16 < 32 := by decide

/-- The ack-read register is volatile and the glue enable register is another. -/
theorem witness_RegisterReadsLastWrite : ∃ off x : Word,
    off ∈ (Config.params.regs .B).volatileRegs ∧ off.extractLsb' 0 2 = 0 ∧ x.extractLsb' 0 2 = 0 ∧ x ≠ off := by
  obtain ⟨-, -, -, hv, hva, -⟩ := glueRegs_ok_cases (regs_ok .B)
  have ha := admits_aligned (hva _ hv)
  by_cases h0 : (Config.params.regs .B).ackRd = 0
  · exact ⟨_, 4, hv, ha, by decide, by rw [h0]; decide⟩
  · exact ⟨_, 0, hv, ha, by decide, fun h => h0 h.symm⟩

theorem witness_GlueIsLittleEndian : 0 < 4 ∧ 3 < 4 := by decide

/-- RD32, WR32, SETM, CLRM, MASKSET: not initialised, a misaligned offset, offset 0, and a command in progress. -/
theorem witness_RegisterCommands :
    fresh.glueInit = false ∧ (base.glueInit = true ∧ ¬ Admitted base 1) ∧ (base.glueInit = true ∧ Admitted base 0) ∧
    ((onCp base [] (some (.setmS2 0x100 1 0))).turn = .req 0 ∧
      workOf (onCp base [] (some (.setmS2 0x100 1 0))) 0 = some (.setmS2 0x100 1 0)) ∧
    workOf (onCp base [] (some (.clrmS2 0x100 1 0))) 0 = some (.clrmS2 0x100 1 0) ∧
    workOf (onCp base [] (some (.masksetS2 0x100 1 1 0))) 0 = some (.masksetS2 0x100 1 1 0) :=
  ⟨rfl, ⟨rfl, not_admitted_one _⟩, ⟨rfl, admitted_zero _⟩, ⟨rfl, rfl⟩, rfl, rfl⟩

theorem witness_ReadModifyWriteAlone :
    (onCp base [] none).turn = .req 0 ∧
    (onCp base [] none).ports[0]? = some { words := [], work := none, responses := [] } ∧
    (onCp base [] none).glueInit = true ∧ Admitted (onCp base [] none) 0 := ⟨rfl, rfl, rfl, admitted_zero _⟩

/-- ALLOC's clauses but one: the init check, both range checks, no domain, a duplicate, the three conflicts. -/
theorem witness_AllocRule_checks :
    fresh.glueInit = false ∧ (base.glueInit = true ∧ 7 < (8 : BitVec 8).toNat ∧ 31 < (32 : BitVec 8).toNat) ∧
    ((7 : BitVec 8).toNat = (7 : FnId).val ∧ (0 : BitVec 8).toNat = (0 : SubId).val) ∧
    (0 : SubId).val < Config.params.subfuncCount 7 ∧
    inited.dom[(7 : FnId)] ≠ .built ∧ base.dom[(7 : FnId)] = .built ∧
    (∃ k : SlotIx, (line41 .masked).slots[k] = some 41) ∧ (∀ k : SlotIx, (line41 .masked).slots[k] ≠ some 42) ∧
    (∃ j : SlotIx, (line41 .masked).slots[j] ≠ none ∧ (line41 .masked).lines[j].f = 7 ∧
      (line41 .masked).lines[j].s = 0) ∧
    (∃ j : SlotIx, (withLive base 1 7 31 41 1 .masked).slots[j] ≠ none ∧
      (withLive base 1 7 31 41 1 .masked).lines[j].f = 7 ∧ (withLive base 1 7 31 41 1 .masked).lines[j].s = 31) := by
  have := subfuncCount_bounds 7
  refine ⟨rfl, ⟨rfl, by decide, by decide⟩, ⟨rfl, rfl⟩, by change 0 < _; omega, by decide +kernel, by decide +kernel,
    ⟨1, by decide +kernel⟩, by decide +kernel, ⟨1, by decide +kernel⟩, ⟨1, by decide +kernel⟩⟩

/-- The clause of a concrete subfunction past its function's count needs a count below 31. -/
theorem witness_AllocRule_range (h : Config.params.subfuncCount 7 ≤ 30) :
    (30 : SubId).val ≤ 30 ∧ Config.params.subfuncCount 7 ≤ (30 : SubId).val := ⟨by decide, h⟩

/-- ALLOC's last clauses: no line of the function is live, the mode forbids or admits, the table is full or has room. -/
theorem witness_AllocRule_modes :
    (∀ j : SlotIx, base.slots[j] ≠ none → base.lines[j].f = 7 →
      base.lines[j].s ≠ 0 ∧ base.lines[j].s ≠ 31 ∧ (0 : SubId) ≠ 31) ∧
    (∃ n, { base with mode := base.mode.set 7 (.perSub 0) }.mode[(7 : FnId)] = .perSub n ∧ n.val ≤ (0 : SubId).val) ∧
    ({ base with mode := base.mode.set 7 .broadcast }.mode[(7 : FnId)] = .broadcast ∧ (0 : SubId) ≠ 31) ∧
    ((∀ n, base.mode[(7 : FnId)] = .perSub n → (0 : SubId) ≠ 31 ∧ (0 : SubId).val < n.val) ∧
      (base.mode[(7 : FnId)] = .broadcast → (0 : SubId) = 31)) ∧
    (∀ k : SlotIx, { base with slots := Vector.replicate 100 (some 1) }.slots[k] ≠ none) ∧
    (base.slots[(0 : SlotIx)] = none ∧ ∀ j : SlotIx, j < 0 → base.slots[j] ≠ none) := by
  refine ⟨by decide +kernel, ⟨0, by decide +kernel, by decide⟩, by decide +kernel, ⟨by decide +kernel, by decide +kernel⟩,
    by decide +kernel, by decide +kernel, by decide +kernel⟩

/-- COMPOSE, WRMSG, MASK, UNMASK, FREE: not initialised, an unknown virq, the line busy, or not, in each of its states. -/
theorem witness_LineCommands :
    fresh.glueInit = false ∧ (base.glueInit = true ∧ ∀ k : SlotIx, base.slots[k] ≠ some 41) ∧
    (∀ st b, (line41 st b).glueInit = true ∧ HoldsLine (line41 st b) 41 1 ∧
      (line41 st b).lines[(1 : SlotIx)].busy = b ∧ (line41 st b).lines[(1 : SlotIx)].st = st) ∧
    (0 : Word) = 0 ∧ (0xFEE00000 : Word) ≠ 0 := by
  refine ⟨rfl, ⟨rfl, by decide +kernel⟩, fun st b => ⟨rfl, holds41 st b, ?_, ?_⟩, rfl, by decide⟩ <;>
    cases st <;> cases b <;> decide +kernel

/-- WRMSG's, MASK's and UNMASK's later steps. -/
theorem witness_LineSteps : ∀ w ∈ ([.wrmsgS2 1 7 0 5 6 0, .wrmsgS3 1 7 0 5 6, .wrmsgS4 1 7 0 6, .wrmsgS5 1 7 0 6,
      .wrmsgS6 1, .wrmsgS7 1 0, .maskS2 1 7 1 0, .unmaskS2 1 7 1 0] : List Work),
    (onCp (line41 .masked true) [] (some w)).turn = .req 0 ∧
    workOf (onCp (line41 .masked true) [] (some w)) 0 = some w := fun _ _ => ⟨rfl, rfl⟩

/-- A concrete line, and the broadcast line. -/
theorem witness_WrmsgAlone :
    ((onCp (line41 .masked) [] none).turn = .req 0 ∧
      (onCp (line41 .masked) [] none).ports[0]? = some { words := [], work := none, responses := [] } ∧
      (onCp (line41 .masked) [] none).glueInit = true ∧ HoldsLine (onCp (line41 .masked) [] none) 41 1 ∧
      (line41 .masked).lines[(1 : SlotIx)].busy = false ∧ (0xFEE00000 : Word) ≠ 0) ∧
    ((withLive base 1 7 31 41 1 .masked).lines[(1 : SlotIx)].s = 31 ∧
      HoldsLine (withLive base 1 7 31 41 1 .masked) 41 1) :=
  ⟨⟨rfl, rfl, rfl, holds41 .masked false, by decide +kernel, by decide⟩, by decide +kernel, by decide +kernel,
    by decide +kernel⟩

/-- On REF, whose mask registers are plain, in each of the line's states, the two configured ones among them. -/
theorem witness_MaskUnmaskIdempotent : ∀ st : LineState,
    (onCp (line41 st) [] none).turn = .req 0 ∧
    (onCp (line41 st) [] none).ports[0]? = some { words := [], work := none, responses := [] } ∧
    HoldsLine (onCp (line41 st) [] none) 41 1 ∧ (line41 st).lines[(1 : SlotIx)].busy = false ∧
    (line41 st).lines[(1 : SlotIx)].st = st ∧ LineState.masked ≠ .unconfigured ∧
    (refEnv.par.regs (line41 st).variantLatch).maskReg (line41 st).lines[(1 : SlotIx)].f ∉
      (refEnv.par.regs (line41 st).variantLatch).volatileRegs := by
  intro st
  refine ⟨rfl, rfl, holds41 st false, ?_⟩
  cases st <;> decide +kernel

/-- ASSIGN's clauses but the last: the init check, the range checks, no domain, a mode or a line already, no line. -/
theorem witness_AssignRule :
    fresh.glueInit = false ∧ 7 < (8 : BitVec 8).toNat ∧
    ((0 : Word) = 0 ∧ Config.params.subfuncCount 7 < (32 : Word).toNat) ∧
    ((1 : Word) ≠ 0 ∧ (1 : Word).toNat ≤ Config.params.subfuncCount 7) ∧
    inited.dom[(7 : FnId)] ≠ .built ∧ base.dom[(7 : FnId)] = .built ∧
    { base with mode := base.mode.set 7 (.perSub 1) }.mode[(7 : FnId)] ≠ .none ∧
    (∃ j : SlotIx, (line41 .masked).slots[j] ≠ none ∧ (line41 .masked).lines[j].f = 7) ∧
    (base.mode[(7 : FnId)] = .none ∧ ∀ j : SlotIx, base.slots[j] ≠ none → base.lines[j].f ≠ 7) ∧
    ((1 : Word) ≠ 0 ∧ (1 : Word) ≤ 1) := by
  have := subfuncCount_bounds 7
  refine ⟨rfl, by decide, ⟨rfl, ?_⟩, ⟨by decide, ?_⟩, by decide +kernel, by decide +kernel, by decide +kernel,
    ⟨1, by decide +kernel⟩, ⟨by decide +kernel, by decide +kernel⟩, by decide, by decide⟩
  · change _ < 32
    omega
  · change 1 ≤ _
    omega

/-- The Broadcast grant needs a count above 1: g = 1 for n = 2. -/
theorem witness_AssignRule_broadcast (h : 2 ≤ Config.params.subfuncCount 7) :
    (2 : Word) ≠ 0 ∧ (2 : Word).toNat ≤ Config.params.subfuncCount 7 ∧ (1 : Word) ≠ 0 ∧ (1 : Word) < 2 :=
  ⟨by decide, h, by decide, by decide⟩

theorem witness_FreeiRule :
    fresh.glueInit = false ∧ 7 < (8 : BitVec 8).toNat ∧ (7 : BitVec 8).toNat = (7 : FnId).val ∧
    (∃ j : SlotIx, (line41 .masked).slots[j] ≠ none ∧ (line41 .masked).lines[j].f = 7) ∧
    (∀ j : SlotIx, base.slots[j] ≠ none → base.lines[j].f ≠ 7) :=
  ⟨rfl, by decide, rfl, ⟨1, by decide +kernel⟩, by decide +kernel⟩

/-- DBUILD's clauses: a domain begun, out of order, the primary, and a secondary after it. -/
theorem witness_DbuildRule : ∃ f : FnId, f ≠ Config.params.primary ∧
    fresh.glueInit = false ∧ 7 < (8 : BitVec 8).toNat ∧ inited.glueInit = true ∧
    (BitVec.ofNat 8 f.val).toNat = f.val ∧ base.dom[f] ≠ .unbuilt ∧
    (inited.dom[f] = .unbuilt ∧ inited.dom[Config.params.primary] ≠ .built) ∧
    inited.dom[Config.params.primary] = .unbuilt ∧
    ({ inited with dom := inited.dom.set Config.params.primary .built }.dom[f] = .unbuilt ∧
      { inited with dom := inited.dom.set Config.params.primary .built }.dom[Config.params.primary] = .built) := by
  obtain ⟨f, hf⟩ := other_function
  have h8 := f.isLt
  refine ⟨f, hf, rfl, by decide, rfl, ?_, ?_, ⟨?_, ?_⟩, ?_, ?_⟩
  · rw [BitVec.toNat_ofNat]; omega
  · simp [base]
  · simp [inited, fresh, State.reset]
  · simp [inited, fresh, State.reset]
  · simp [inited, fresh, State.reset]
  · have : Config.params.primary.val ≠ f.val := fun h => hf (Fin.ext h.symm)
    simp [inited, fresh, State.reset, this]

/-- DBUILDALL and GDEINIT: not initialised, the lowest begun function at both ends of its range, and none begun. -/
theorem witness_DbuildallRule :
    fresh.glueInit = false ∧ (base.dom[(0 : FnId)] ≠ .unbuilt ∧ ∀ j : FnId, j < 0 → base.dom[j] = .unbuilt) ∧
    ({ inited with dom := inited.dom.set 7 .failed }.dom[(7 : FnId)] ≠ .unbuilt ∧
      ∀ j : FnId, j < 7 → { inited with dom := inited.dom.set 7 .failed }.dom[j] = .unbuilt) ∧
    (inited.glueInit = true ∧ ∀ f : FnId, inited.dom[f] = .unbuilt) :=
  ⟨rfl, by decide +kernel, by decide +kernel, rfl, by decide +kernel⟩

theorem witness_DtearRule :
    fresh.glueInit = false ∧ (∃ i : SlotIx, (line41 .masked).slots[i] ≠ none) ∧
    (base.glueInit = true ∧ ∀ i : SlotIx, base.slots[i] = none) :=
  ⟨rfl, ⟨1, by decide +kernel⟩, rfl, by decide +kernel⟩

/-- DLOOKUP: the checks, a domain not Built, a line not live, and a line found. -/
theorem witness_DlookupRule :
    fresh.glueInit = false ∧ 7 < (8 : BitVec 8).toNat ∧ 31 < (32 : BitVec 8).toNat ∧
    inited.dom[(7 : FnId)] ≠ .built ∧
    (∀ i : SlotIx, (line41 .masked).slots[i] ≠ none →
      ¬ ((line41 .masked).lines[i].f = 7 ∧ (line41 .masked).lines[i].s = 1)) ∧
    ((line41 .masked).dom[(7 : FnId)] = .built ∧ (line41 .masked).slots[(1 : SlotIx)] ≠ none ∧
      (line41 .masked).lines[(1 : SlotIx)].f = 7 ∧ (line41 .masked).lines[(1 : SlotIx)].s = 0 ∧
      ∀ j : SlotIx, (line41 .masked).slots[j] ≠ none → (line41 .masked).lines[j].f = 7 →
        (line41 .masked).lines[j].s = 0 → j = 1) :=
  ⟨rfl, by decide, by decide, by decide +kernel, by decide +kernel, by decide +kernel, by decide +kernel,
    by decide +kernel, by decide +kernel, by decide +kernel⟩

/-- GINIT and GDEINIT: `inited` is initialised with every domain Unbuilt, `base` has domains, `fresh` is neither. -/
theorem witness_GlueControlRule : inited.glueInit = true ∧ fresh.glueInit = false ∧
    (base.glueInit = true ∧ base.dom[(0 : FnId)] ≠ .unbuilt ∧ ∀ j : FnId, j < 0 → base.dom[j] = .unbuilt) ∧
    (∀ f : FnId, inited.dom[f] = .unbuilt) :=
  ⟨rfl, rfl, ⟨rfl, by decide +kernel, by decide +kernel⟩, by decide +kernel⟩

/-- An invalid event, a group function's on an initialised variant B, and the three ways to the default path. -/
theorem witness_EdgeRule : decHwirq 0x720 = none ∧
    (∀ g : Group, decHwirq (encHwirq (Config.params.funcOf g) 0) = some (Config.params.funcOf g, 0) ∧
      base.glueInit = true ∧ base.variantLatch = .B) ∧
    fresh.glueInit = false ∧ { base with variantLatch := .A }.variantLatch = .A ∧
    ∃ f : FnId, decHwirq (encHwirq f 0) = some (f, 0) ∧ ∀ g : Group, f ≠ Config.params.funcOf g := by
  obtain ⟨f, hf⟩ := outside_groups
  exact ⟨by decide, fun g => ⟨dec_of_enc _, rfl, rfl⟩, rfl, rfl, f, dec_of_enc f, hf⟩

/-- `base` with the usb agent in this state and the turn its own. -/
def usbAt (ph : DmxPhase) (left : Word) (pend : Bool) (lock : AckLock) : State :=
  { base with
    turn := .dmx .usb
    dmx := { base.dmx with usb := { phase := ph, pendLeft := left } }
    ependG := { base.ependG with usb := pend }
    ackLock := lock }

/-- T1 enabled, held by another, nothing pending; T2, T3 and T4. -/
theorem witness_LockProtocol :
    ((usbAt .idle 0 true .free).turn = .dmx .usb ∧ ((usbAt .idle 0 true .free).dmx.get .usb).phase = .idle ∧
      (usbAt .idle 0 true .free).ependG.get .usb = true ∧ (usbAt .idle 0 true .free).ackLock = .free) ∧
    (usbAt .idle 0 true (.held .dma)).ackLock ≠ .free ∧
    (usbAt .idle 0 false .free).ependG.get .usb = false ∧
    ∀ k : LockStep, ((usbAt (.locked k) 0 false (.held .usb)).dmx.get .usb).phase = .locked k :=
  ⟨⟨rfl, rfl, rfl, rfl⟩, by decide, rfl, fun _ => rfl⟩

theorem witness_DispatchBit :
    (usbAt .dispatching 0x5 false .free).turn = .dmx .usb ∧
    ((usbAt .dispatching 0x5 false .free).dmx.get .usb).phase = .dispatching ∧
    ((usbAt .dispatching 0x5 false .free).dmx.get .usb).pendLeft ≠ 0 := ⟨rfl, rfl, by decide⟩

/-- `base` with these default events pending and the default agent's turn. -/
def dfltAt (hs : List Word) : State := { base with turn := .dflt, ependH := hs }

theorem witness_DefaultStep :
    (dfltAt []).turn = .dflt ∧ (dfltAt []).ependH = [] ∧ (dfltAt [0x300]).ependH ≠ [] ∧
    (∀ x ∈ (dfltAt [0x300]).ependH, (decHwirq x).isSome = true) :=
  ⟨rfl, rfl, by simp [dfltAt], by
    intro x hx
    obtain rfl := List.mem_singleton.1 hx
    decide⟩

theorem witness_RaiseRecordsFault : fresh.turn = .req 0 ∧ fresh.ports[0]? = some Port.empty := ⟨rfl, rfl⟩

/-- Port 0 after one answer to nothing waiting. -/
def answered (st : Status) : Port := { words := [], work := none, responses := [{ status := st, results := [] }] }

/-- A fault and an error. -/
theorem witness_FailedCommandsChangeNothing :
    (fresh.turn = .req 0 ∧ fresh.ports[0]? = some Port.empty ∧
      ∃ t, exec .dtear fresh = .next t ∧ t.ports[0]? = some (answered .notInitialized)) ∧
    Status.notInitialized.isFault = true ∧
    (∃ t, exec (.alloc 7 0x1F 41) inited = .next t ∧ t.ports[0]? = some (answered .noDomain)) ∧
    Status.noDomain.isError = true ∧ Status.noDomain ≠ .secondaryDomainFailed :=
  ⟨⟨rfl, rfl, _, rfl, by decide +kernel⟩, by decide, ⟨_, rfl, by decide +kernel⟩, by decide, by decide⟩

/-- The failure of a secondary domain needs that answer of the draw. -/
theorem witness_FailedCommands_secondary (hp : Config.params.primary = 4) (h : Config.createOk 0 7 = false) :
    ∃ t, exec (.dbuild 7) { inited with dom := inited.dom.set 4 .built } = .next t ∧
      t.ports[0]? = some (answered .secondaryDomainFailed) := by
  refine ⟨_, rfl, ?_⟩
  have hf : fnId? 7#8 = some 7 := by decide
  simp [buildOne, hf, inited, fresh, State.reset, Config.env, hp, h, State.respond, State.onPort, State.issuer, answered,
    buildDomain, Port.atReset, Port.empty]

/-- A command's first step and a later one. -/
theorem witness_OneResponsePerCommand :
    (fresh.turn = .req 0 ∧ fresh.ports[0]? = some Port.empty ∧ (∀ h, Instr.suspend ≠ .edge h) ∧
      ∃ t, exec .suspend fresh = .next t) ∧
    (onCp base [] (some (.setmS2 0x100 1 0))).ports[0]? =
      some { words := [], work := some (.setmS2 0x100 1 0), responses := [] } :=
  ⟨⟨rfl, rfl, fun _ => by simp, exec_next _ _⟩, rfl⟩

/-- A state with a response already given, and a step that gives another. -/
theorem witness_StatusesNeverProduced :
    let s := { fresh with ports := [{ words := [0x32000000], work := none, responses := [{ status := .ok, results := [] }] }] }
    StatusInv s ∧ ∃ t, step s = .next t := by
  refine ⟨?_, _, rfl⟩
  intro p hp a ha
  obtain rfl := List.mem_singleton.1 hp
  obtain rfl := List.mem_singleton.1 ha
  decide

/-- A fault recorded, and a step that raises another. -/
theorem witness_FaultRecordSticky :
    let s := { onCp fresh [0x01000001] none with fltCode := 0x81, fltCount := 1 }
    (∃ t, step s = .next t) ∧ s.turn ≠ .env .create ∧ s.fltCode ≠ 0 := ⟨⟨_, rfl⟩, by decide, by decide⟩

/-- Every instruction of the frames gives a next state in every state. -/
theorem witness_Frames : ∀ (i : Instr), ∃ t, exec i (line41 .masked) = .next t := fun i => exec_next i _

/-- The slots the line commands may change, and others they may not. -/
theorem witness_LineCommandsFrame : (line41 .masked).firstEmpty = some 0 ∧ (line41 .masked).findLine 41 = some 1 ∧
    (line41 .masked).firstEmpty ≠ some 1 ∧ (line41 .masked).findLine 42 = none := by decide +kernel

/-- The demux clauses: an agent at T2, and one that is not. -/
theorem witness_AgentStepsFrame : ((usbAt (.locked .t2) 0 false (.held .usb)).dmx.get .usb).phase = .locked .t2 ∧
    ((usbAt .idle 0 true .free).dmx.get .usb).phase ≠ .locked .t2 ∧
    workLine (.setmS2 0 0 0) ≠ some (1 : SlotIx) ∧ workStore GlueRegs.ref (.wrmsgS6 1) = none ∧
    workStore GlueRegs.ref (.maskS2 1 7 1 0) = some 0x11C := ⟨rfl, by decide, by decide, by decide, by decide⟩

/-- An event outside function 7: the group of function 7, if any, keeps its bit. -/
theorem witness_ControlEdgeFrame : ∀ g : Group, ∃ f : FnId,
    (encHwirq f 0).extractLsb' 8 8 ≠ BitVec.ofNat 8 (Config.params.funcOf g).val := by
  intro g
  have : ∀ a : FnId, ∃ f : FnId, (encHwirq f 0).extractLsb' 8 8 ≠ BitVec.ofNat 8 a.val := by decide
  exact this _

/-! The invariants' witnesses: a state other than reset that meets the invariant, and that it steps. -/

theorem witness_StepKeepsMemoryCanonical :
    let s := { fresh with mem := memPutWord Config.params.glue0 [] 0 1 }
    Memory.wf s.mem = true ∧ ∃ t, step s = .next t :=
  ⟨memWf_memPutWord _ [] 0 1 rfl, _, rfl⟩

/-- Only slot 1 of `line41` is live. -/
theorem live41 (st : LineState) (b : Bool) (i : SlotIx) (h : (line41 st b).slots[i] ≠ none) : i = 1 := by
  revert i
  cases st <;> cases b <;> decide +kernel

theorem line41_at (st : LineState) (b : Bool) :
    (line41 st b).lines[(1 : SlotIx)] = { f := 7, s := 0, virq := 41, mbits := 1, st := st, busy := b } := by
  cases st <;> cases b <;> decide +kernel

theorem witness_StepKeepsTable : TableInv (line41 .masked) ∧ ∃ t, step (line41 .masked) = .next t := by
  have hl := live41 .masked false
  have hat := line41_at .masked false
  have hc := subfuncCount_bounds 7
  refine ⟨⟨?_, ?_, ?_, ?_, ?_, ?_, ?_⟩, _, rfl⟩
  · intro i j v hi hj
    rw [hl i (by simp [hi]), hl j (by simp [hj])]
  · intro i j hi hj _
    rw [hl i hi, hl j hj]
  · intro i j hi hj _ _
    rw [hl i hi, hl j hj]
  · intro i hi
    obtain rfl := hl i hi
    decide +kernel
  · intro i v hi
    obtain rfl := hl i (by simp [hi])
    have h1 : (line41 .masked).slots[(1 : SlotIx)] = some 41 := (holds41 .masked false).1
    rw [h1] at hi
    rw [hat]
    exact Option.some.inj hi
  · intro i hi
    obtain rfl := hl i hi
    rw [hat]
    exact .inr (by change 0 < Config.params.subfuncCount 7; omega)
  · intro i hi
    obtain rfl := hl i hi
    rw [hat]
    rfl

/-- Function 7 in PerSub(1) with its one line. -/
def granted41 : State :=
  { line41 .masked with mode := base.mode.set 7 (.perSub 1), grant := base.grant.set 7 1 }

theorem witness_StepKeepsGrants : GrantInv granted41 ∧ ∃ t, step granted41 = .next t := by
  have hc := subfuncCount_bounds 7
  have hm : ∀ f : FnId, (granted41.mode[f] = .none ∧ granted41.grant[f] = 0) ∨
      (f = 7 ∧ granted41.mode[f] = .perSub 1 ∧ granted41.grant[f] = 1) := by decide +kernel
  have hl : ∀ i : SlotIx, granted41.slots[i] ≠ none → i = 1 := live41 .masked false
  have h1 : granted41.lines[(1 : SlotIx)] = { f := 7, s := 0, virq := 41, mbits := 1, st := .masked, busy := false } :=
    line41_at .masked false
  refine ⟨⟨?_, ?_, ?_, ?_, ?_⟩, _, rfl⟩
  · intro f h
    rcases hm f with h' | h'
    · exact h'.2
    · rw [h'.2.1] at h; cases h
  · intro f n h
    rcases hm f with h' | ⟨rfl, h', hg⟩
    · rw [h'.1] at h; cases h
    · rw [h'] at h
      cases h
      exact ⟨by decide, hc.1, hg⟩
  · intro f h
    rcases hm f with h' | h'
    · rw [h'.1] at h; cases h
    · rw [h'.2.1] at h; cases h
  · intro i n hi h
    obtain rfl := hl i hi
    rcases hm granted41.lines[(1 : SlotIx)].f with h' | h'
    · exact nomatch h'.1.symm.trans h
    · obtain rfl : 1 = n := GrantMode.perSub.inj (h'.2.1.symm.trans h)
      rw [h1]
      decide
  · intro i hi h
    obtain rfl := hl i hi
    rcases hm granted41.lines[(1 : SlotIx)].f with h' | h'
    · exact nomatch h'.1.symm.trans h
    · exact nomatch h'.2.1.symm.trans h

theorem witness_StepKeepsDomains : DomainInv base ∧ ∃ t, step base = .next t := by
  have hd : ∀ f : FnId, base.dom[f] = .built ∧ base.domParent[f] = .vector := by decide +kernel
  refine ⟨⟨fun _ _ _ => (hd _).1, by rw [(hd _).1]; decide, fun f _ => ?_, fun f h => absurd (hd f).1 h⟩, _, rfl⟩
  rw [(hd f).2, (hd _).2]
  exact ⟨by decide, rfl⟩

/-- The usb agent between T2 and T3, another default event pending. -/
def usbLocked : State := { usbAt (.locked .t3) 0 false (.held .usb) with ependH := [0x300, 0x301] }

theorem witness_StepKeepsDemux : DemuxInv usbLocked ∧ (∃ t, step usbLocked = .next t) ∧
    (usbLocked.dmx.get .usb).phase = .locked .t3 := by
  refine ⟨⟨?_, ?_, ?_, ?_⟩, ⟨_, rfl⟩, rfl⟩
  · intro g
    cases g
    · exact ⟨fun h => absurd h (by decide), fun ⟨k, h⟩ => nomatch (show DmxPhase.idle = .locked k from h)⟩
    · exact ⟨fun _ => ⟨.t3, rfl⟩, fun _ => rfl⟩
    · exact ⟨fun h => absurd h (by decide), fun ⟨k, h⟩ => nomatch (show DmxPhase.idle = .locked k from h)⟩
  · intro g
    cases g
    · exact ⟨fun h => (nomatch (show DmxPhase.idle = .dispatching from h)), fun h => absurd rfl h⟩
    · exact ⟨fun h => (nomatch (show DmxPhase.locked .t3 = .dispatching from h)), fun h => absurd rfl h⟩
    · exact ⟨fun h => (nomatch (show DmxPhase.idle = .dispatching from h)), fun h => absurd rfl h⟩
  · change [0x300#32, 0x301#32].Pairwise (· < ·)
    decide
  · intro h hh
    rcases List.mem_cons.1 hh with rfl | hh
    · decide
    · obtain rfl := List.mem_singleton.1 hh
      decide

/-- The usb agent at T4, the holder of the lock, in a state that meets the invariants: its step lifts the hold. -/
theorem witness_LockProtocol_hold :
    let s := { base with
      turn := .dmx .usb, dmx := { base.dmx with usb := { phase := .locked (.t4 7), pendLeft := 0 } }, ackLock := .held .usb }
    DemuxInv s ∧ s.ackLock = .held .usb ∧ s.turn ≠ .env .create ∧ ∃ t, step s = .next t ∧ t.ackLock ≠ .held .usb := by
  refine ⟨⟨?_, ?_, .nil, fun h hh => nomatch hh⟩, rfl, by decide, _, rfl, by decide⟩
  · intro g
    cases g
    · exact ⟨fun h => absurd h (by decide), fun ⟨k, h⟩ => nomatch (show DmxPhase.idle = .locked k from h)⟩
    · exact ⟨fun _ => ⟨.t4 7, rfl⟩, fun _ => rfl⟩
    · exact ⟨fun h => absurd h (by decide), fun ⟨k, h⟩ => nomatch (show DmxPhase.idle = .locked k from h)⟩
  · intro g
    cases g
    · exact ⟨fun h => (nomatch (show DmxPhase.idle = .dispatching from h)), fun h => absurd rfl h⟩
    · exact ⟨fun h => (nomatch (show DmxPhase.locked (.t4 7) = .dispatching from h)), fun h => absurd rfl h⟩
    · exact ⟨fun h => (nomatch (show DmxPhase.idle = .dispatching from h)), fun h => absurd rfl h⟩

/-- Initialised with the strap latched. -/
theorem witness_StepKeepsVariant :
    let s := { base with variantLatch := Config.params.strap }
    VariantInv s ∧ ∃ t, step s = .next t :=
  ⟨⟨fun _ => rfl, fun _ => ⟨rfl, fun g => by cases g <;> exact ⟨rfl, rfl⟩⟩⟩, _, rfl⟩

/-- MASK 41 between its two steps on port 0, every other port with nothing on it. -/
def masking41 : State :=
  { line41 .masked true with
    ports := { words := [], work := some (.maskS2 1 7 1 0), responses := [] } :: Port.atReset.tail }

theorem witness_StepKeepsBusy : BusyInv masking41 ∧ ∃ t, step masking41 = .next t := by
  have hw : ∀ r w, workOf masking41 r = some w → r = 0 ∧ w = .maskS2 1 7 1 0 := by
    intro r w h
    cases r with
    | zero => exact ⟨rfl, (Option.some.inj h).symm⟩
    | succ n =>
      simp only [workOf, masking41, Port.atReset, List.tail_cons, List.getElem?_cons_succ, List.getElem?_replicate] at h
      split at h <;> exact nomatch h
  have hn := numReq_pos
  refine ⟨⟨?_, ?_, ?_, ?_⟩, _, rfl⟩
  · simp only [masking41, Port.atReset, List.tail_cons, List.length_cons, List.length_replicate]
    omega
  · intro r w i h hi
    obtain ⟨-, rfl⟩ := hw r w h
    obtain rfl := Option.some.inj hi
    exact ⟨by decide +kernel, by decide +kernel⟩
  · intro r r' w w' i h h' _ _
    rw [(hw r w h).1, (hw r' w' h').1]
  · intro i hi _
    obtain rfl := live41 .masked true i hi
    exact ⟨0, _, rfl, rfl⟩

/-- A step that changes each of the five pieces of state, as its clause says. -/
theorem witness_WhoWritesWhat :
    (∃ t, step (onCp fresh [0x30000000] none) = .next t ∧ t.glueInit ≠ (onCp fresh [0x30000000] none).glueInit) ∧
    (∃ t, step (onCp (line41 .masked) [0x15000000, 41] none) = .next t ∧ t.slots[1] ≠ (line41 .masked).slots[1]) ∧
    (∃ t, step (onCp base [0x22000000] none) = .next t ∧ t.dom[0] ≠ base.dom[0]) ∧
    (∃ t, step (onCp { base with mode := base.mode.set 7 .broadcast } [0x17070000] none) = .next t ∧
      t.mode[7] ≠ .broadcast) ∧
    (∃ t, step (usbAt .idle 0 true .free) = .next t ∧ t.ackLock ≠ (usbAt .idle 0 true .free).ackLock) :=
  ⟨⟨_, rfl, by decide +kernel⟩, ⟨_, rfl, by decide +kernel⟩, ⟨_, rfl, by decide +kernel⟩, ⟨_, rfl, by decide +kernel⟩,
    _, rfl, by decide +kernel⟩

end Sys2Proof.Tests
end

section
/-! PROOFS. O58: every step keeps the `NUM_REQ` ports, and the busy bits and the commands in progress in agreement
(R8, R22, R30, R258).

`BusyInv` says that `portLine`, the line worked on from each port, is an injective map onto the live busy lines. A step
keeps both sides, or takes a free line for its port, or gives a port's line back; the rest says which step does which. -/

namespace Sys2Proof

open Sys2Proof.Machine

/-! ## The two sides of the agreement -/

/-- The line worked on from port `r`, if any. -/
def portLine (ps : List Port) (r : Nat) : Option SlotIx := (ps[r]?.bind Port.work).bind workLine

/-- Line `i` is live and busy. -/
def LiveBusy (s : State) (i : SlotIx) : Prop := s.slots[i] ≠ none ∧ s.lines[i].busy = true

theorem portLine_eq_some_iff (s : State) (r : Nat) (i : SlotIx) :
    portLine s.ports r = some i ↔ ∃ w, workOf s r = some w ∧ workLine w = some i :=
  Option.bind_eq_some_iff

theorem portLine_of_port {ps : List Port} {r : Nat} {p : Port} (hp : ps[r]? = some p) :
    portLine ps r = p.work.bind workLine := by
  simp [portLine, hp]

/-- A change of port `r` that keeps the line worked on from it keeps every port's line. -/
theorem portLine_modify_of_same {ps : List Port} {r : Nat} {g : Port → Port}
    (hg : ∀ p, ps[r]? = some p → (g p).work.bind workLine = p.work.bind workLine) (r' : Nat) :
    portLine (ps.modify r g) r' = portLine ps r' := by
  unfold portLine
  rw [List.getElem?_modify]
  split
  · next h =>
    subst h
    cases hp : ps[r]? with
    | none => rfl
    | some p => exact hg p hp
  · cases ps[r']? <;> rfl

/-- A change of port `r` sets the line worked on from it and no other port's. -/
theorem portLine_modify_of_port {ps : List Port} {r : Nat} {p : Port} (g : Port → Port) (hp : ps[r]? = some p) :
    portLine (ps.modify r g) = Function.update (portLine ps) r ((g p).work.bind workLine) := by
  funext r'
  unfold portLine
  rw [List.getElem?_modify, Function.update_apply]
  by_cases h : r' = r
  · subst h
    simp [hp]
  · rw [if_neg h]
    simp only [Ne.symm h, if_false]
    cases ps[r']? <;> rfl

/-- `BusyInv` in terms of the line worked on from each port. -/
theorem busyInv_iff (s : State) : BusyInv s ↔ s.ports.length = Config.params.numReq ∧
    (∀ r r' i, portLine s.ports r = some i → portLine s.ports r' = some i → r = r') ∧
    ∀ i, LiveBusy s i ↔ ∃ r, portLine s.ports r = some i := by
  simp only [portLine_eq_some_iff]
  constructor
  · rintro ⟨hlen, hworks, hone, hbusy⟩
    exact ⟨hlen, fun r r' i ⟨w, hw, hi⟩ ⟨w', hw', hi'⟩ => hone r r' w w' i hw hw' hi hi',
      fun i => ⟨fun ⟨hl, hb⟩ => hbusy i hl hb, fun ⟨r, w, hw, hi⟩ => hworks r w i hw hi⟩⟩
  · rintro ⟨hlen, hone, hbusy⟩
    exact ⟨hlen, fun r w i hw hi => (hbusy i).2 ⟨r, w, hw, hi⟩,
      fun r r' w w' i hw hw' hi hi' => hone r r' i ⟨w, hw, hi⟩ ⟨w', hw', hi'⟩, fun i hl hb => (hbusy i).1 ⟨hl, hb⟩⟩

/-! ## The three ways a step can bear on it -/

/-- Both sides stay. -/
theorem BusyInv.keep {s t : State} (hs : BusyInv s) (hlen : t.ports.length = s.ports.length)
    (hline : ∀ r, portLine t.ports r = portLine s.ports r) (hbusy : ∀ i, LiveBusy t i ↔ LiveBusy s i) : BusyInv t := by
  rw [busyInv_iff] at hs ⊢
  simpa only [hlen, hline, hbusy] using hs

/-- Port `r`, working on no line, takes the free line `i`, which becomes busy. -/
theorem BusyInv.take {s t : State} {r : Nat} {i : SlotIx} (hs : BusyInv s) (hlen : t.ports.length = s.ports.length)
    (hidle : portLine s.ports r = none) (hfree : ¬ LiveBusy s i)
    (hline : portLine t.ports = Function.update (portLine s.ports) r (some i))
    (hbusy : ∀ j, LiveBusy t j ↔ j = i ∨ LiveBusy s j) : BusyInv t := by
  rw [busyInv_iff] at hs ⊢
  obtain ⟨hn, hone, hagree⟩ := hs
  have hline_iff : ∀ r' j, portLine t.ports r' = some j ↔
      (r' = r ∧ j = i) ∨ (r' ≠ r ∧ portLine s.ports r' = some j) := fun r' j => by
    rw [hline, Function.update_apply]
    split
    · simp [*, eq_comm]
    · simp [*]
  have hnot : ∀ r', portLine s.ports r' ≠ some i := fun r' h => hfree ((hagree i).2 ⟨r', h⟩)
  refine ⟨hlen.trans hn, fun r₁ r₂ j h₁ h₂ => ?_, fun j => ?_⟩
  · rcases (hline_iff r₁ j).1 h₁ with ⟨hr₁, hj⟩ | ⟨-, h₁⟩ <;> rcases (hline_iff r₂ j).1 h₂ with ⟨hr₂, hj'⟩ | ⟨-, h₂⟩
    · exact hr₁.trans hr₂.symm
    · exact absurd (hj ▸ h₂) (hnot r₂)
    · exact absurd (hj' ▸ h₁) (hnot r₁)
    · exact hone r₁ r₂ j h₁ h₂
  · rw [hbusy, hagree]
    simp only [hline_iff]
    constructor
    · rintro (rfl | ⟨r', h⟩)
      · exact ⟨r, .inl ⟨rfl, rfl⟩⟩
      · exact ⟨r', .inr ⟨by rintro rfl; simp [hidle] at h, h⟩⟩
    · rintro ⟨r', ⟨-, hj⟩ | ⟨-, h⟩⟩
      · exact .inl hj
      · exact .inr ⟨r', h⟩

/-- The command on port `r`, working on line `i`, gives the line back, which is busy no more. -/
theorem BusyInv.release {s t : State} {r : Nat} {i : SlotIx} (hs : BusyInv s)
    (hlen : t.ports.length = s.ports.length) (hwork : portLine s.ports r = some i)
    (hline : portLine t.ports = Function.update (portLine s.ports) r none)
    (hbusy : ∀ j, LiveBusy t j ↔ j ≠ i ∧ LiveBusy s j) : BusyInv t := by
  rw [busyInv_iff] at hs ⊢
  obtain ⟨hn, hone, hagree⟩ := hs
  have hline_iff : ∀ r' j, portLine t.ports r' = some j ↔ r' ≠ r ∧ portLine s.ports r' = some j := fun r' j => by
    rw [hline, Function.update_apply]
    split <;> simp [*]
  refine ⟨hlen.trans hn, fun r₁ r₂ j h₁ h₂ => ?_, fun j => ?_⟩
  · exact hone r₁ r₂ j ((hline_iff r₁ j).1 h₁).2 ((hline_iff r₂ j).1 h₂).2
  · rw [hbusy, hagree]
    simp only [hline_iff]
    constructor
    · rintro ⟨hj, r', h⟩
      refine ⟨r', ?_, h⟩
      rintro rfl
      exact hj (Option.some.inj (h.symm.trans hwork))
    · rintro ⟨r', hr, h⟩
      refine ⟨?_, r', h⟩
      rintro rfl
      exact hr (hone r' r j h hwork)

/-! ## Live busy lines after the table's updates -/

theorem not_liveBusy_of_free {s : State} {i : SlotIx} (h : s.lines[i].busy = false) : ¬ LiveBusy s i :=
  fun hb => Bool.false_ne_true (h.symm.trans hb.2)

/-- A write of a line's state and busy bit. -/
theorem liveBusy_setLine (s : State) (i : SlotIx) (st : LineState) (b : Bool) (j : SlotIx) :
    LiveBusy (s.setLine i st b) j ↔ if j = i then s.slots[i] ≠ none ∧ b = true else LiveBusy s j := by
  by_cases h : j = i
  · subst h
    simp [LiveBusy]
  · simp [LiveBusy, h, Vector.getElem_set_ne, Fin.val_ne_of_ne (Ne.symm h)]

/-- A slot and its line written together, neither before nor after it live and busy: ALLOC's and FREE's write. -/
theorem liveBusy_setSlot {s t : State} {i : SlotIx} {v : Option Word} {l : Line} (hslots : t.slots = s.slots.set i v)
    (hlines : t.lines = s.lines.set i l) (hold : ¬ LiveBusy s i) (hnew : v = none ∨ l.busy = false) (j : SlotIx) :
    LiveBusy t j ↔ LiveBusy s j := by
  by_cases h : j = i
  · subst h
    refine iff_of_false ?_ hold
    rcases hnew with hnew | hnew <;> simp [LiveBusy, hslots, hlines, hnew]
  · simp [LiveBusy, hslots, hlines, Vector.getElem_set_ne, Fin.val_ne_of_ne (Ne.symm h)]

/-! ## What leaves both sides alone -/

/-- The turn, the ports and the live busy lines are the same. -/
structure SameUse (s t : State) : Prop where
  turn : t.turn = s.turn
  ports : t.ports = s.ports
  busy : ∀ i, LiveBusy t i ↔ LiveBusy s i

theorem SameUse.refl (s : State) : SameUse s s := ⟨rfl, rfl, fun _ => .rfl⟩

theorem SameUse.trans {s t u : State} (h : SameUse s t) (h' : SameUse t u) : SameUse s u :=
  ⟨h'.turn.trans h.turn, h'.ports.trans h.ports, fun i => (h'.busy i).trans (h.busy i)⟩

theorem SameUse.busyInv {s t : State} (h : SameUse s t) (hs : BusyInv s) : BusyInv t :=
  hs.keep (by rw [h.ports]) (fun r => by rw [h.ports]) h.busy

theorem sameUse_acceptEdge (e : Env) (ev : Word) (s : State) : SameUse s (acceptEdge e ev s) := by
  obtain ⟨-, hc⟩ | ⟨_, _, _, -, -, -, -, hc⟩ | ⟨_, _, -, -, hc⟩ := acceptEdge_cases e ev s <;> rw [hc] <;>
    exact ⟨rfl, rfl, fun _ => .rfl⟩

theorem sameUse_demuxT1 (g : Group) (s : State) : SameUse s (demuxT1 g s) := by
  obtain ⟨-, -, hc⟩ | ⟨-, hc⟩ := demuxT1_cases g s <;> rw [hc]
  · exact ⟨rfl, rfl, fun _ => .rfl⟩
  · exact .refl s

theorem sameUse_demuxBit (e : Env) (g : Group) (i : Nat) (s : State) : SameUse s (demuxBit e g i s) := by
  obtain ⟨_, _, -, hc⟩ | hc := demuxBit_cases e g i s <;> rw [hc] <;> exact ⟨rfl, rfl, fun _ => .rfl⟩

theorem sameUse_demuxT5 (e : Env) (g : Group) (s : State) : SameUse s (demuxT5 e g s) := by
  unfold demuxT5
  split
  · exact ⟨rfl, rfl, fun _ => .rfl⟩
  · exact (sameUse_demuxBit e g _ s).trans ⟨rfl, rfl, fun _ => .rfl⟩

theorem sameUse_stepDemux (e : Env) (g : Group) (s : State) : SameUse s (stepDemux e g s) := by
  unfold stepDemux
  split
  · exact sameUse_demuxT1 g s
  · exact ⟨rfl, rfl, fun _ => .rfl⟩
  · exact ⟨rfl, rfl, fun _ => .rfl⟩
  · exact ⟨rfl, rfl, fun _ => .rfl⟩
  · exact sameUse_demuxT5 e g s

theorem sameUse_stepDefault (e : Env) (s : State) : SameUse s (stepDefault e s) := by
  unfold stepDefault
  split
  · exact .refl s
  · dsimp only
    split <;> exact ⟨rfl, rfl, fun _ => .rfl⟩

theorem sameUse_buildDomain (e : Env) (p : Parent) (bad : DomStatus) (f : FnId) (s : State) :
    SameUse s (buildDomain e p bad f s) := by
  obtain ⟨-, hc⟩ | ⟨-, hc⟩ := buildDomain_cases e p bad f s <;> rw [hc] <;> exact ⟨rfl, rfl, fun _ => .rfl⟩

theorem sameUse_foldl_buildDomain (e : Env) (p : Parent) (bad : DomStatus) (fs : List FnId) (s : State) :
    SameUse s (fs.foldl (fun t f => buildDomain e p bad f t) s) := by
  induction fs generalizing s with
  | nil => exact .refl s
  | cons f fs ih => exact (sameUse_buildDomain e p bad f s).trans (ih _)

/-- The lookup of the parent, then the primary's domain. -/
theorem sameUse_buildDomain_askRemap (e : Env) (p : Parent) (bad : DomStatus) (f : FnId) (s : State) :
    SameUse s (buildDomain e p bad f (askRemap e s)) :=
  SameUse.trans (t := askRemap e s) ⟨rfl, rfl, fun _ => .rfl⟩ (sameUse_buildDomain e p bad f _)

/-! ## The step of the port whose turn it is -/

/-- `BusyInv` holds, and the port whose turn it is works on the line `l`, or on none before a command's first step and
within a register command. -/
structure OnTurn (s : State) (l : Option SlotIx) : Prop where
  inv : BusyInv s
  port : ∃ p, s.ports[s.issuer]? = some p
  line : portLine s.ports s.issuer = l

theorem issuer_of_req {s : State} {r : Nat} (h : s.turn = .req r) : s.issuer = r := by
  rw [State.issuer, h]

section
variable {s t : State} {i : SlotIx} {l : Option SlotIx} {w : Work} {ls : LineState} {st : Status} {rs : List Word}
  {info : Word}

theorem OnTurn.of_sameUse (h : OnTurn s l) (hst : SameUse s t) : OnTurn t l := by
  have hissuer : t.issuer = s.issuer := by rw [State.issuer, State.issuer, hst.turn]
  exact ⟨hst.busyInv h.inv, by rw [hst.ports, hissuer]; exact h.port, by rw [hst.ports, hissuer]; exact h.line⟩

/-- A change of the issuing port alone that keeps the line worked on from it. -/
theorem OnTurn.onPort {g : Port → Port} (h : OnTurn s l) (hg : ∀ p, (g p).work.bind workLine = l) :
    BusyInv (s.onPort s.issuer g) := by
  refine h.inv.keep (List.length_modify ..) (portLine_modify_of_same fun p hp => ?_) fun _ => .rfl
  rw [hg, ← portLine_of_port hp, h.line]

/-- A response ends a command that works on no line. -/
theorem OnTurn.respond (h : OnTurn s none) (hst : SameUse s t) : BusyInv (t.respond st rs) :=
  (h.of_sameUse hst).onPort fun _ => rfl

/-- A fault ends a command that works on no line. -/
theorem OnTurn.raise (h : OnTurn s none) : BusyInv (s.raise st info) :=
  h.respond ⟨rfl, rfl, fun _ => .rfl⟩

/-- A command stops between two steps and works on what it worked on. -/
theorem OnTurn.hold (h : OnTurn s l) (hst : SameUse s t) (hw : workLine w = l) : BusyInv (t.hold w) :=
  (h.of_sameUse hst).onPort fun _ => hw

/-- The first step of WRMSG, MASK and UNMASK takes a live line that is not busy. -/
theorem OnTurn.hold_setBusy (h : OnTurn s none) (hlive : s.slots[i] ≠ none) (hfree : s.lines[i].busy = false)
    (hw : workLine w = some i) (e : Env) (off : Word) : BusyInv (((s.setBusy i).gbRead e off).hold w) := by
  obtain ⟨p, hp⟩ := h.port
  refine h.inv.take (i := i) (List.length_modify ..) h.line (not_liveBusy_of_free hfree) ?_ fun j => ?_
  · rw [← hw]
    exact portLine_modify_of_port _ hp
  · refine (liveBusy_setLine s i _ true j).trans ?_
    split
    · exact iff_of_true ⟨hlive, rfl⟩ (.inl ‹_›)
    · next hj => simp [hj]

/-- The last step of WRMSG, MASK and UNMASK gives the line back. -/
theorem OnTurn.respond_setLine (h : OnTurn s (some i)) (hst : SameUse s t) :
    BusyInv ((t.setLine i ls false).respond st rs) := by
  obtain ⟨hinv, ⟨p, hp⟩, hline⟩ := h.of_sameUse hst
  refine hinv.release (i := i) (List.length_modify ..) hline (portLine_modify_of_port _ hp) fun j => ?_
  refine (liveBusy_setLine t i ls false j).trans ?_
  split
  · next hj => simp [hj]
  · next hj => simp [hj]

end

/-! ## The shared checks -/

theorem busyInv_checkRal {s k : State} (h : OnTurn s none) (e : Env) (opc : BitVec 8) (off : Word) (hk : BusyInv k) :
    BusyInv (checkRal e opc off s k) := by
  obtain ⟨-, hc⟩ | ⟨-, -, hc⟩ | ⟨-, -, hc⟩ := checkRal_cases e opc off s k <;> rw [hc]
  · exact h.raise
  · exact h.raise
  · exact hk

theorem busyInv_withLine {s : State} {k : SlotIx → State} (h : OnTurn s none) (opc : BitVec 8) (virq : Word)
    (hk : ∀ i : SlotIx, s.slots[i] ≠ none → s.lines[i].busy = false → BusyInv (k i)) :
    BusyInv (withLine opc virq s k) := by
  obtain ⟨-, hc⟩ | ⟨-, -, hc⟩ | ⟨i, -, -, -, hc⟩ | ⟨i, -, hi, hb, hc⟩ := withLine_cases opc virq s k <;> rw [hc]
  · exact h.raise
  · exact h.raise
  · exact h.raise
  · refine hk i ?_ hb
    rw [((findLine_eq_some_iff s virq i).1 hi).1]
    exact Option.some_ne_none virq

/-! ## The first steps of the commands -/

section
variable {s : State} (h : OnTurn s none) (e : Env)
include h

theorem busyInv_allocate (fn sf : BitVec 8) (virq : Word) : BusyInv (allocate e fn sf virq s) := by
  obtain ⟨_, _, -, hc⟩ | ⟨_, -, hc⟩ | ⟨f, sub, i, -, -, -, -, -, -, -, -, hi, hc⟩ := allocate_cases e fn sf virq s <;>
    rw [hc]
  · exact h.raise
  · exact h.respond (.refl s)
  · have hempty := ((firstEmpty_eq_some_iff s i).1 hi).1
    exact h.respond ⟨rfl, rfl, liveBusy_setSlot rfl rfl (fun hb => hb.1 hempty) (.inr rfl)⟩

theorem busyInv_composeMsg (virq : Word) : BusyInv (composeMsg e virq s) := by
  obtain ⟨-, hc⟩ | ⟨_, _, -, hc⟩ | ⟨i, -, -, -, hc⟩ := composeMsg_cases e virq s <;> rw [hc]
  · exact h.respond ⟨rfl, rfl, fun _ => .rfl⟩
  · exact h.raise
  · exact h.respond (.refl s)

theorem busyInv_writeMsg (virq addr data : Word) : BusyInv (writeMsg e virq addr data s) := by
  refine busyInv_withLine h _ _ fun i hlive hfree => ?_
  split
  · exact h.respond (.refl s)
  · exact h.hold_setBusy hlive hfree rfl e _

theorem busyInv_maskLine (virq : Word) : BusyInv (maskLine e virq s) :=
  busyInv_withLine h _ _ fun _ hlive hfree => h.hold_setBusy hlive hfree rfl e _

theorem busyInv_unmaskLine (virq : Word) : BusyInv (unmaskLine e virq s) := by
  refine busyInv_withLine h _ _ fun i hlive hfree => ?_
  split
  · exact h.raise
  · exact h.hold_setBusy hlive hfree rfl e _

theorem busyInv_releaseLine (virq : Word) : BusyInv (releaseLine e virq s) := by
  refine busyInv_withLine h _ _ fun i _ hfree => ?_
  split
  · exact h.raise
  · exact h.respond ⟨rfl, rfl, liveBusy_setSlot rfl rfl (not_liveBusy_of_free hfree) (.inl rfl)⟩

theorem busyInv_assignVectors (fn : BitVec 8) (n g : Word) : BusyInv (assignVectors e fn n g s) := by
  obtain ⟨_, _, -, hc⟩ | ⟨_, -, hc⟩ | ⟨f, -, -, -, -, -, -, -, -, ⟨-, hc⟩ | ⟨-, hc⟩⟩ :=
    assignVectors_cases e fn n g s <;> rw [hc]
  · exact h.raise
  · exact h.respond (.refl s)
  · exact h.respond ⟨rfl, rfl, fun _ => .rfl⟩
  · exact h.respond ⟨rfl, rfl, fun _ => .rfl⟩

theorem busyInv_freeVectors (fn : BitVec 8) : BusyInv (freeVectors fn s) := by
  obtain ⟨_, _, -, hc⟩ | ⟨f, -, -, -, hc⟩ := freeVectors_cases fn s <;> rw [hc]
  · exact h.raise
  · exact h.respond ⟨rfl, rfl, fun _ => .rfl⟩

theorem busyInv_buildOne (fn : BitVec 8) : BusyInv (buildOne e fn s) := by
  obtain ⟨_, _, -, hc⟩ | hc | ⟨f, -, -, -, -, hc⟩ | ⟨f, -, -, -, -, -, hc⟩ := buildOne_cases e fn s <;> rw [hc]
  · exact h.raise
  · exact h.respond (.refl s)
  · exact h.respond (sameUse_buildDomain_askRemap e _ _ f s)
  · exact h.respond (sameUse_buildDomain e _ _ f s)

theorem busyInv_buildAll : BusyInv (buildAll e s) := by
  have hprimary := sameUse_buildDomain_askRemap e (drawnParent e s) .unbuilt e.par.primary s
  obtain ⟨_, _, -, hc⟩ | ⟨-, -, -, hc⟩ | ⟨-, -, -, hc⟩ := buildAll_cases e s <;> rw [hc]
  · exact h.raise
  · exact h.respond hprimary
  · exact h.respond (hprimary.trans (sameUse_foldl_buildDomain e _ _ _ _))

theorem busyInv_tearDown : BusyInv (tearDown e s) := by
  obtain ⟨_, _, -, hc⟩ | ⟨-, -, hc⟩ := tearDown_cases e s <;> rw [hc]
  · exact h.raise
  · exact h.respond ⟨rfl, rfl, fun _ => .rfl⟩

theorem busyInv_queryLookup (fn sf : BitVec 8) : BusyInv (queryLookup fn sf s) := by
  obtain ⟨_, _, -, hc⟩ | ⟨f, sub, -, -, -, ⟨-, hc⟩ | ⟨v, -, hc⟩⟩ := queryLookup_cases fn sf s <;> rw [hc]
  · exact h.raise
  · exact h.respond (.refl s)
  · exact h.respond (.refl s)

theorem busyInv_initGlue : BusyInv (initGlue e s) := by
  obtain ⟨-, hc⟩ | ⟨-, hc⟩ := initGlue_cases e s <;> rw [hc]
  · exact h.raise
  · exact h.respond ⟨rfl, rfl, fun _ => .rfl⟩

theorem busyInv_deinitGlue : BusyInv (deinitGlue e s) := by
  obtain ⟨_, _, -, hc⟩ | ⟨-, -, hc⟩ := deinitGlue_cases e s <;> rw [hc]
  · exact h.raise
  · exact h.respond ⟨rfl, rfl, fun _ => .rfl⟩

/-- The register commands work on no line, so their first step answers or holds on none. -/
theorem busyInv_readReg (off : Word) : BusyInv (readReg e off s) :=
  busyInv_checkRal h e _ off (h.respond ⟨rfl, rfl, fun _ => .rfl⟩)

theorem busyInv_writeReg (off v : Word) : BusyInv (writeReg e off v s) :=
  busyInv_checkRal h e _ off (h.respond ⟨rfl, rfl, fun _ => .rfl⟩)

theorem busyInv_setMask (off m : Word) : BusyInv (setMask e off m s) :=
  busyInv_checkRal h e _ off (h.hold ⟨rfl, rfl, fun _ => .rfl⟩ rfl)

theorem busyInv_clearMask (off m : Word) : BusyInv (clearMask e off m s) :=
  busyInv_checkRal h e _ off (h.hold ⟨rfl, rfl, fun _ => .rfl⟩ rfl)

theorem busyInv_maskAndSet (off c m : Word) : BusyInv (maskAndSet e off c m s) :=
  busyInv_checkRal h e _ off (h.hold ⟨rfl, rfl, fun _ => .rfl⟩ rfl)

end

/-- The first step of every command. -/
theorem busyInv_exec {s t : State} (h : OnTurn s none) (i : Instr) (ht : exec i s = .next t) : BusyInv t := by
  cases i <;> obtain rfl := Host.Outcome.next.inj ht
  case rd32 off => exact busyInv_readReg h _ off
  case wr32 off v => exact busyInv_writeReg h _ off v
  case setm off m => exact busyInv_setMask h _ off m
  case clrm off m => exact busyInv_clearMask h _ off m
  case maskset off c m => exact busyInv_maskAndSet h _ off c m
  case alloc fn sf v => exact busyInv_allocate h _ fn sf v
  case allocb fn v => exact busyInv_allocate h _ fn 0x1F v
  case compose v => exact busyInv_composeMsg h _ v
  case wrmsg v a d => exact busyInv_writeMsg h _ v a d
  case mask v => exact busyInv_maskLine h _ v
  case unmask v => exact busyInv_unmaskLine h _ v
  case free v => exact busyInv_releaseLine h _ v
  case assign fn n g => exact busyInv_assignVectors h _ fn n g
  case freei fn => exact busyInv_freeVectors h fn
  case dbuild fn => exact busyInv_buildOne h _ fn
  case dbuildall => exact busyInv_buildAll h _
  case dtear => exact busyInv_tearDown h _
  case dlookup fn sf => exact busyInv_queryLookup h fn sf
  case ginit => exact busyInv_initGlue h _
  case gdeinit => exact busyInv_deinitGlue h _
  case suspend => exact h.respond (.refl s)
  case resume => exact h.respond (.refl s)
  case edge ev => exact (sameUse_acceptEdge _ ev s).busyInv h.inv

/-! ## The later steps of a command in progress -/

/-- Every later step goes on on the same line, or gives it back. -/
theorem busyInv_resumeWork {s : State} (e : Env) (w : Work) (h : OnTurn s (workLine w)) :
    BusyInv (resumeWork e w s) := by
  cases w with
  | setmS2 off m t => exact h.respond ⟨rfl, rfl, fun _ => .rfl⟩
  | clrmS2 off m t => exact h.respond ⟨rfl, rfl, fun _ => .rfl⟩
  | masksetS2 off c m t => exact h.respond ⟨rfl, rfl, fun _ => .rfl⟩
  | wrmsgS2 i f l addr data t => exact h.hold ⟨rfl, rfl, fun _ => .rfl⟩ rfl
  | wrmsgS3 i f l addr data => exact h.hold ⟨rfl, rfl, fun _ => .rfl⟩ rfl
  | wrmsgS4 i f l data => exact h.hold ⟨rfl, rfl, fun _ => .rfl⟩ rfl
  | wrmsgS5 i f l data => exact h.hold ⟨rfl, rfl, fun _ => .rfl⟩ rfl
  | wrmsgS6 i => exact h.hold ⟨rfl, rfl, fun _ => .rfl⟩ rfl
  | wrmsgS7 i t => exact h.respond_setLine ⟨rfl, rfl, fun _ => .rfl⟩
  | maskS2 i f b t => exact h.respond_setLine ⟨rfl, rfl, fun _ => .rfl⟩
  | unmaskS2 i f b t => exact h.respond_setLine ⟨rfl, rfl, fun _ => .rfl⟩

/-! ## The agents -/

theorem onTurn_of_port {s : State} {r : Nat} {p : Port} (hs : BusyInv s) (hturn : s.turn = .req r)
    (hp : s.ports[r]? = some p) : OnTurn s (p.work.bind workLine) := by
  rw [← issuer_of_req hturn] at hp
  exact ⟨hs, ⟨p, hp⟩, portLine_of_port hp⟩

/-- Taking a command's words off the port of an idle requester. -/
theorem onTurn_takeWords {s : State} {r : Nat} {p : Port} (hs : BusyInv s) (hturn : s.turn = .req r)
    (hp : s.ports[r]? = some p) (hidle : p.work = none) (rest : List Word) : OnTurn (s.takeWords r rest) none := by
  have hkeep : BusyInv (s.takeWords r rest) :=
    hs.keep (List.length_modify ..) (portLine_modify_of_same fun _ _ => rfl) fun _ => .rfl
  have hp' : (s.takeWords r rest).ports[r]? = some { p with words := rest } := by simp [hp]
  simpa [hidle] using onTurn_of_port hkeep hturn hp'

theorem busyInv_stepRequester {s t : State} {r : Nat} (hs : BusyInv s) (hturn : s.turn = .req r)
    (h : stepRequester r s = .next t) : BusyInv t := by
  obtain rfl | ⟨p, w, hp, hw, rfl⟩ | ⟨p, i, rest, hp, hidle, -, hx⟩ | ⟨p, hd, rest, hp, hidle, -, rfl⟩ :=
    stepRequester_cases h
  · exact hs
  · have hon := onTurn_of_port hs hturn hp
    rw [hw] at hon
    exact busyInv_resumeWork _ w hon
  · exact busyInv_exec (onTurn_takeWords hs hturn hp hidle rest) i hx
  · exact (onTurn_takeWords hs hturn hp hidle rest).raise

/-- Creation abandons every command and empties the table (R250). -/
theorem BusyInv.create {s : State} (hs : BusyInv s) : BusyInv s.create := by
  rw [busyInv_iff] at hs ⊢
  have hnone : ∀ r i, portLine s.create.ports r ≠ some i := fun r i => by
    rw [portLine, State.create_ports, List.getElem?_map]
    cases s.ports[r]? <;> simp
  have hempty : ∀ i, ¬ LiveBusy s.create i := fun i hb => hb.1 (by simp [State.reset])
  exact ⟨by simpa using hs.1, fun r _ i hr => absurd hr (hnone r i),
    fun i => iff_of_false (hempty i) fun ⟨r, hr⟩ => hnone r i hr⟩

theorem busyInv_stepEnvironment {s t : State} {a : Arrival} (hs : BusyInv s) (h : stepEnvironment a s = .next t) :
    BusyInv t := by
  obtain ⟨-, rfl⟩ | ⟨r, w, -, rfl⟩ | ⟨ev, -, rfl⟩ | ⟨-, rfl⟩ := stepEnvironment_cases h
  · exact hs
  · exact hs.keep (List.length_modify ..) (portLine_modify_of_same fun _ _ => rfl) fun _ => .rfl
  · exact (sameUse_acceptEdge _ ev s).busyInv hs
  · exact hs.create

/-- Settles O58: the step of each agent keeps `BusyInv`, and so does the drawing of the next turn. -/
theorem stepKeepsBusy : Obligations.StepKeepsBusy := by
  intro s t hs hstep
  obtain ⟨u, rfl, hagent⟩ := step_cases hstep
  have hu : BusyInv u := by
    obtain ⟨r, hturn, hr⟩ | ⟨g, -, rfl⟩ | ⟨-, rfl⟩ | ⟨a, -, ha⟩ := hagent
    · exact busyInv_stepRequester hs hturn hr
    · exact (sameUse_stepDemux _ g s).busyInv hs
    · exact (sameUse_stepDefault _ s).busyInv hs
    · exact busyInv_stepEnvironment hs ha
  exact hu.keep rfl (fun _ => rfl) fun _ => .rfl

end Sys2Proof
end

section
/-! PROOFS. What one step does to the block state, said once: every step is a chain of *quiet* changes, which leave
what the invariants speak of alone, and of *writes*, each made by one command or agent (R26–R39). -/

namespace Sys2Proof

open Sys2Proof.Machine

/-! ## Quiet changes -/

/-- A recorded fault stays as it is and the count never falls (R226). -/
def FaultKept (s t : State) : Prop :=
  (s.fltCode ≠ 0 → t.fltCode = s.fltCode ∧ t.fltInfo = s.fltInfo) ∧ s.fltCount ≤ t.fltCount

/-- Nothing changes but ports, window, records, counters and schedule, the state and busy bit of lines, and the fault
record as a fault may change it. -/
structure Quiet (s t : State) : Prop where
  frame : t = { s with
    ports := t.ports, lines := t.lines, fltCode := t.fltCode, fltInfo := t.fltInfo, fltCount := t.fltCount,
    diagFallback := t.diagFallback, diagSkip := t.diagSkip, diagSpurious := t.diagSpurious, dlog := t.dlog,
    mem := t.mem, gbLog := t.gbLog, pdLog := t.pdLog, turn := t.turn, tick := t.tick }
  lines : ∀ j : SlotIx, t.lines[j] = { s.lines[j] with st := t.lines[j].st, busy := t.lines[j].busy }
  fault : FaultKept s t

theorem FaultKept.of_eq {s t : State} (hcode : t.fltCode = s.fltCode) (hinfo : t.fltInfo = s.fltInfo)
    (hcount : t.fltCount = s.fltCount) : FaultKept s t :=
  ⟨fun _ => ⟨hcode, hinfo⟩, BitVec.le_of_eq hcount.symm⟩

theorem FaultKept.trans {s t u : State} (h : FaultKept s t) (h' : FaultKept t u) : FaultKept s u := by
  obtain ⟨hfirst, hcount⟩ := h
  obtain ⟨hfirst', hcount'⟩ := h'
  refine ⟨fun hne => ?_, BitVec.le_trans hcount hcount'⟩
  obtain ⟨hcode, hinfo⟩ := hfirst hne
  obtain ⟨hcode', hinfo'⟩ := hfirst' (hcode ▸ hne)
  exact ⟨hcode'.trans hcode, hinfo'.trans hinfo⟩

theorem le_satSucc (n : Word) : n ≤ satSucc n := by
  unfold satSucc
  split
  · exact BitVec.le_refl n
  · next h => bv_omega

theorem faultKept_raise (s : State) (f : Status) (info : Word) : FaultKept s (s.raise f info) :=
  ⟨fun hne => ⟨if_neg hne, if_neg hne⟩, le_satSucc s.fltCount⟩

/-- A quiet change that leaves the line records and the fault record alone too. -/
theorem Quiet.of_frame {s t : State} (h : t = { s with
    ports := t.ports, diagFallback := t.diagFallback, diagSkip := t.diagSkip, diagSpurious := t.diagSpurious,
    dlog := t.dlog, mem := t.mem, gbLog := t.gbLog, pdLog := t.pdLog, turn := t.turn, tick := t.tick }) :
    Quiet s t := by
  rw [h]
  exact ⟨rfl, fun _ => rfl, .of_eq rfl rfl rfl⟩

theorem Quiet.refl (s : State) : Quiet s s := .of_frame rfl

section
variable {s t : State} (h : Quiet s t)
include h

theorem Quiet.glueInit : t.glueInit = s.glueInit := by rw [h.frame]
theorem Quiet.variantLatch : t.variantLatch = s.variantLatch := by rw [h.frame]
theorem Quiet.slots : t.slots = s.slots := by rw [h.frame]
theorem Quiet.dom : t.dom = s.dom := by rw [h.frame]
theorem Quiet.domParent : t.domParent = s.domParent := by rw [h.frame]
theorem Quiet.mode : t.mode = s.mode := by rw [h.frame]
theorem Quiet.grant : t.grant = s.grant := by rw [h.frame]
theorem Quiet.ackLock : t.ackLock = s.ackLock := by rw [h.frame]
theorem Quiet.ependG : t.ependG = s.ependG := by rw [h.frame]
theorem Quiet.ependH : t.ependH = s.ependH := by rw [h.frame]
theorem Quiet.dmx : t.dmx = s.dmx := by rw [h.frame]

end

theorem quiet_onPort (s : State) (r : Nat) (g : Port → Port) : Quiet s (s.onPort r g) := .of_frame rfl
theorem quiet_respond (s : State) (st : Status) (rs : List Word) : Quiet s (s.respond st rs) := .of_frame rfl
theorem quiet_hold (s : State) (w : Work) : Quiet s (s.hold w) := .of_frame rfl
theorem quiet_gbRead (e : Env) (s : State) (off : Word) : Quiet s (s.gbRead e off) := .of_frame rfl
theorem quiet_gbWrite (e : Env) (s : State) (off v : Word) : Quiet s (s.gbWrite e off v) := .of_frame rfl
theorem quiet_askRemap (e : Env) (s : State) : Quiet s (askRemap e s) := .of_frame rfl
theorem quiet_emit (s : State) (v h : Word) : Quiet s (s.emit v h) := .of_frame rfl
theorem quiet_takeWords (s : State) (r : Nat) (ws : List Word) : Quiet s (s.takeWords r ws) := .of_frame rfl
theorem quiet_advance (e : Env) (s : State) : Quiet s (s.advance e) := .of_frame rfl

theorem quiet_raise (s : State) (f : Status) (info : Word) : Quiet s (s.raise f info) :=
  ⟨rfl, fun _ => rfl, faultKept_raise s f info⟩

/-- An element of a vector after one element is set. -/
theorem getElem_set_fin {α : Type} {n : Nat} (xs : Vector α n) (k j : Fin n) (x : α) :
    (xs.set k x)[j] = if j = k then x else xs[j] := by
  simp [Vector.getElem_set, Fin.ext_iff, eq_comm]

theorem quiet_setLine (s : State) (k : SlotIx) (st : LineState) (b : Bool) : Quiet s (s.setLine k st b) := by
  refine ⟨rfl, fun j => ?_, .of_eq rfl rfl rfl⟩
  rw [State.setLine_lines, getElem_set_fin]
  split
  · next h => rw [h]
  · rfl

/-- One handled bit dispatches or is counted. -/
theorem quiet_demuxBit (e : Env) (g : Group) (i : Nat) (s : State) : Quiet s (demuxBit e g i s) := by
  obtain ⟨v, h, -, hc⟩ | hc := demuxBit_cases e g i s <;> rw [hc]
  · exact quiet_emit s v h
  · exact .of_frame rfl

/-! ## Writes -/

/-- The commands that may write a slot (R125, R150). -/
def WritesSlots (i : Instr) : Prop :=
  (∃ fn sf v, i = .alloc fn sf v) ∨ (∃ fn v, i = .allocb fn v) ∨ ∃ v, i = .free v

/-- The commands that may write a domain (R173–R175). -/
def WritesDomains (i : Instr) : Prop := (∃ fn, i = .dbuild fn) ∨ i = .dbuildall ∨ i = .dtear

/-- The commands that may write a mode or grant (R160, R161, R175). -/
def WritesGrants (i : Instr) : Prop := (∃ fn n g, i = .assign fn n g) ∨ (∃ fn, i = .freei fn) ∨ i = .dtear

/-- What makes a step: an instruction, a demux agent, the creation of the block, or anything else. -/
inductive Cause where
  | instr (i : Instr)
  | group (g : Group)
  | creation
  | other

/-- A function's mode and grant agree (R34, R160). -/
def GrantOk (f : FnId) : GrantMode → Word → Prop
  | .none, w => w = 0
  | .perSub n, w => 1 ≤ n.val ∧ n.val ≤ Config.params.subfuncCount f ∧ w = BitVec.ofNat 32 n.val
  | .broadcast, w => w ≠ 0 ∧ w.toNat < Config.params.subfuncCount f

/-- One write of what the invariants speak of, by its cause and under the checks its maker has made. -/
inductive Write : Cause → State → State → Prop where
  | initialised {s : State} (w : Fin 3) :
    Write (.instr .ginit) s { s with glueInit := true, variantLatch := Config.params.strap, glueWin := w }
  | deinitialised {s : State} (v : Variant) (w : Fin 3) :
    Write (.instr .gdeinit) s { s with glueInit := false, variantLatch := v, glueWin := w }
  | allocated {i : Instr} {s : State} {f : FnId} {sub : SubId} {virq : Word} {k : SlotIx} (hi : WritesSlots i)
    (hsub : sub = bcast ∨ sub.val < Config.params.subfuncCount f) (hdom : s.dom[f] = .built)
    (hvirq : ∀ j : SlotIx, s.slots[j] ≠ some virq) (hclash : s.clash f sub = false)
    (hmode : modeForbids s.mode[f] sub = false) (hk : s.slots[k] = none) :
    Write (.instr i) s
      { s with slots := s.slots.set k (some virq), lines := s.lines.set k (newLine Config.env f sub virq) }
  | freed {i : Instr} {s : State} (k : SlotIx) (l : Line) (hi : WritesSlots i) :
    Write (.instr i) s { s with slots := s.slots.set k none, lines := s.lines.set k l }
  | granted {i : Instr} {s : State} {f : FnId} {m : GrantMode} {w : Word} (hi : WritesGrants i) (hok : GrantOk f m w)
    (hlive : s.anyLive f = false) : Write (.instr i) s { s with mode := s.mode.set f m, grant := s.grant.set f w }
  | primaryBuilt {i : Instr} {s : State} {p : Parent} (hi : WritesDomains i)
    (hf : s.dom[Config.params.primary] = .unbuilt) (hp : p ≠ .none) :
    Write (.instr i) s { s with
      dom := s.dom.set Config.params.primary .built, domParent := s.domParent.set Config.params.primary p }
  | secondaryBuilt {i : Instr} {s : State} {f : FnId} (hi : WritesDomains i) (hf : s.dom[f] = .unbuilt)
    (hne : f ≠ Config.params.primary) (hprimary : s.dom[Config.params.primary] = .built) :
    Write (.instr i) s { s with
      dom := s.dom.set f .built, domParent := s.domParent.set f s.domParent[Config.params.primary] }
  | secondaryFailed {i : Instr} {s : State} {f : FnId} (hi : WritesDomains i) (hf : s.dom[f] = .unbuilt)
    (hne : f ≠ Config.params.primary) (hprimary : s.dom[Config.params.primary] = .built) :
    Write (.instr i) s { s with dom := s.dom.set f .failed }
  | tornDown {s : State} (hempty : ∀ i : SlotIx, s.slots[i] = none) :
    Write (.instr .dtear) s { s with
      dom := Vector.replicate 8 .unbuilt, domParent := Vector.replicate 8 .none
      mode := Vector.replicate 8 .none, grant := Vector.replicate 8 0 }
  | groupEdge {h : Word} {s : State} (g : Group) (hinit : s.glueInit = true) (hB : s.variantLatch = .B) :
    Write (.instr (.edge h)) s { s with ependG := s.ependG.set g true }
  | defaultEdge {h : Word} {s : State} (hvalid : (decHwirq h).isSome = true) :
    Write (.instr (.edge h)) s { s with ependH := setInsert h s.ependH }
  | lockTaken {g : Group} {s : State} (hpend : s.ependG.get g = true) (hfree : s.ackLock = .free)
    (hphase : (s.dmx.get g).phase = .idle) :
    Write (.group g) s { s with
      ependG := s.ependG.set g false, ackLock := .held g
      dmx := s.dmx.set g { s.dmx.get g with phase := .locked .t2 } }
  | lockKept {g : Group} {s : State} {k : LockStep} (k' : LockStep) (hphase : (s.dmx.get g).phase = .locked k) :
    Write (.group g) s { s with dmx := s.dmx.set g { s.dmx.get g with phase := .locked k' } }
  | lockFreed {g : Group} {s : State} {k : LockStep} (left : Word) (hphase : (s.dmx.get g).phase = .locked k) :
    Write (.group g) s { s with
      ackLock := .free, dmx := s.dmx.set g { phase := if left = 0 then .idle else .dispatching, pendLeft := left } }
  | bitHandled {g : Group} {s : State} (left : Word) (hphase : (s.dmx.get g).phase = .dispatching) :
    Write (.group g) s { s with
      dmx := s.dmx.set g { phase := if left = 0 then .idle else .dispatching, pendLeft := left } }
  | hwirqTaken {s : State} (h : Word) : Write .other s { s with ependH := setErase h s.ependH }
  | created {s : State} : Write .creation s s.create

/-- A chain of quiet changes and of one cause's writes. -/
inductive Effect (c : Cause) : State → State → Prop where
  | quiet {s t : State} (h : Quiet s t) : Effect c s t
  | write {s t : State} (h : Write c s t) : Effect c s t
  | trans {s t u : State} (h : Effect c s t) (h' : Effect c t u) : Effect c s u

/-- A property that every quiet change and every write keeps is kept by their chains. -/
theorem Effect.keeps {c : Cause} {P : State → Prop} (hquiet : ∀ s t, Quiet s t → P s → P t)
    (hwrite : ∀ s t, Write c s t → P s → P t) {s t : State} (h : Effect c s t) (hs : P s) : P t := by
  induction h with
  | quiet h => exact hquiet _ _ h hs
  | write h => exact hwrite _ _ h hs
  | trans _ _ ih ih' => exact ih' (ih hs)

/-- A write, then the answer. -/
theorem Write.respond {c : Cause} {s t : State} (h : Write c s t) (st : Status) (rs : List Word) :
    Effect c s (t.respond st rs) :=
  .trans (.write h) (.quiet (quiet_respond t st rs))

section
variable {c : Cause} {s t : State} {st : Status} {rs : List Word}

theorem Effect.respond (h : Effect c s t) : Effect c s (t.respond st rs) := h.trans (.quiet (quiet_respond t st rs))

theorem effect_respond : Effect c s (s.respond st rs) := .quiet (quiet_respond s st rs)

theorem effect_raise {f : Status} {info : Word} : Effect c s (s.raise f info) := .quiet (quiet_raise s f info)

theorem Quiet.trans_effect {u : State} (h : Quiet s t) (h' : Effect c t u) : Effect c s u := .trans (.quiet h) h'

end

/-! ## The shared checks -/

theorem effect_checkRal {c : Cause} {s k : State} (e : Env) (opc : BitVec 8) (off : Word) (hk : Effect c s k) :
    Effect c s (checkRal e opc off s k) := by
  obtain ⟨-, hc⟩ | ⟨-, -, hc⟩ | ⟨-, -, hc⟩ := checkRal_cases e opc off s k <;> rw [hc]
  · exact effect_raise
  · exact effect_raise
  · exact hk

/-- What holds of the fault that a line command's checks raise, and of its own step on the line found, holds of its first
step. -/
theorem withLine_holds {P : State → Prop} {s : State} {k : SlotIx → State} (opc : BitVec 8) (virq : Word)
    (hraise : ∀ f info, P (s.raise f info)) (hk : ∀ i : SlotIx, s.findLine virq = some i → P (k i)) :
    P (withLine opc virq s k) := by
  obtain ⟨-, hc⟩ | ⟨-, -, hc⟩ | ⟨i, -, -, -, hc⟩ | ⟨i, -, hi, -, hc⟩ := withLine_cases opc virq s k <;> rw [hc]
  · exact hraise _ _
  · exact hraise _ _
  · exact hraise _ _
  · exact hk i hi

theorem effect_withLine {c : Cause} {s : State} {k : SlotIx → State} (opc : BitVec 8) (virq : Word)
    (hk : ∀ i : SlotIx, Effect c s (k i)) : Effect c s (withLine opc virq s k) :=
  withLine_holds (P := Effect c s) opc virq (fun _ _ => effect_raise) fun i _ => hk i

/-- A command reads a register and stops. -/
theorem effect_gbRead_hold {c : Cause} (e : Env) (s : State) (off : Word) (w : Work) :
    Effect c s ((s.gbRead e off).hold w) :=
  .trans (.quiet (quiet_gbRead e s off)) (.quiet (quiet_hold _ w))

/-- A line command marks its line busy, reads a register and stops. -/
theorem effect_setBusy_gbRead_hold {c : Cause} (e : Env) (s : State) (i : SlotIx) (off : Word) (w : Work) :
    Effect c s (((s.setBusy i).gbRead e off).hold w) :=
  .trans (.quiet (quiet_setLine s i _ true)) (effect_gbRead_hold e _ off w)

/-! ## The first steps of the writing commands -/

theorem effect_allocate {i : Instr} (hi : WritesSlots i) (fn sf : BitVec 8) (virq : Word) (s : State) :
    Effect (.instr i) s (allocate Config.env fn sf virq s) := by
  obtain ⟨_, _, -, hc⟩ | ⟨_, -, hc⟩ | ⟨f, sub, k, -, -, -, hsub, hdom, hfind, hclash, hmode, hk, hc⟩ :=
    allocate_cases Config.env fn sf virq s <;> rw [hc]
  · exact effect_raise
  · exact effect_respond
  · have hvirq := (findLine_eq_none_iff s virq).1 hfind
    have hempty := ((firstEmpty_eq_some_iff s k).1 hk).1
    exact (Write.allocated hi hsub hdom hvirq hclash hmode hempty).respond _ _

theorem effect_composeMsg (i : Instr) (virq : Word) (s : State) :
    Effect (.instr i) s (composeMsg Config.env virq s) := by
  obtain ⟨-, hc⟩ | ⟨_, _, -, hc⟩ | ⟨_, -, -, -, hc⟩ := composeMsg_cases Config.env virq s <;> rw [hc]
  · exact .quiet (.of_frame rfl)
  · exact effect_raise
  · exact effect_respond

theorem effect_writeMsg (i : Instr) (virq addr data : Word) (s : State) :
    Effect (.instr i) s (writeMsg Config.env virq addr data s) := by
  refine effect_withLine _ _ fun k => ?_
  split
  · exact effect_respond
  · exact effect_setBusy_gbRead_hold _ s k _ _

theorem effect_unmaskLine (i : Instr) (virq : Word) (s : State) :
    Effect (.instr i) s (unmaskLine Config.env virq s) := by
  refine effect_withLine _ _ fun k => ?_
  split
  · exact effect_raise
  · exact effect_setBusy_gbRead_hold _ s k _ _

theorem effect_releaseLine (virq : Word) (s : State) :
    Effect (.instr (.free virq)) s (releaseLine Config.env virq s) := by
  refine effect_withLine _ _ fun k => ?_
  split
  · exact effect_raise
  · exact (Write.freed k _ (.inr (.inr ⟨virq, rfl⟩))).respond _ _

theorem effect_assignVectors (fn : BitVec 8) (n g : Word) (s : State) :
    Effect (.instr (.assign fn n g)) s (assignVectors Config.env fn n g s) := by
  have hi : WritesGrants (.assign fn n g) := .inl ⟨fn, n, g, rfl⟩
  obtain ⟨_, _, -, hc⟩ | ⟨_, -, hc⟩ | ⟨f, -, -, hn, hcount, -, -, hlive, hg, ⟨-, hc⟩ | ⟨hlt, hc⟩⟩ :=
    assignVectors_cases Config.env fn n g s <;> rw [hc]
  · exact effect_raise
  · exact effect_respond
  · have hpos : n.toNat ≠ 0 := fun h => hn (BitVec.eq_of_toNat_eq h)
    have hval : (Fin.ofNat 32 n.toNat).val = n.toNat :=
      Nat.mod_eq_of_lt (lt_of_le_of_lt (hcount.trans (subfuncCount_bounds f).2) (by decide))
    refine (Write.granted (m := .perSub (Fin.ofNat 32 n.toNat)) hi ⟨?_, ?_, ?_⟩ hlive).respond _ _
    · rw [hval]; omega
    · rw [hval]; exact hcount
    · rw [hval, BitVec.ofNat_toNat, BitVec.setWidth_eq]
  · have hlt : g.toNat < n.toNat := by bv_omega
    exact (Write.granted (m := .broadcast) hi ⟨hg, hlt.trans_le hcount⟩ hlive).respond _ _

theorem effect_freeVectors (fn : BitVec 8) (s : State) : Effect (.instr (.freei fn)) s (freeVectors fn s) := by
  obtain ⟨_, _, -, hc⟩ | ⟨f, -, -, hlive, hc⟩ := freeVectors_cases fn s <;> rw [hc]
  · exact effect_raise
  · exact (Write.granted (m := .none) (.inr (.inl ⟨fn, rfl⟩)) rfl hlive).respond _ _

theorem drawnParent_ne_none (e : Env) (s : State) : drawnParent e s ≠ .none := by
  unfold drawnParent
  split <;> simp

/-- The attempt to build the primary's domain: it is built, or stays Unbuilt. -/
theorem effect_buildDomain_primary {i : Instr} {s : State} {p : Parent} (hi : WritesDomains i)
    (hf : s.dom[Config.params.primary] = .unbuilt) (hp : p ≠ .none) :
    Effect (.instr i) s (buildDomain Config.env p .unbuilt Config.params.primary s) := by
  obtain ⟨-, hc⟩ | ⟨-, hc⟩ := buildDomain_cases Config.env p .unbuilt Config.params.primary s <;> rw [hc]
  · exact .trans (.write (.primaryBuilt hi hf hp)) (.quiet (.of_frame rfl))
  · have hsame : s.dom.set Config.params.primary .unbuilt = s.dom := by
      rw [← hf]
      exact Vector.set_getElem_self ..
    rw [hsame]
    exact .quiet (.of_frame rfl)

/-- The attempt to build another domain once the primary is Built: it is built under the primary's parent, or Failed. -/
theorem effect_buildDomain_secondary {i : Instr} {s : State} {f : FnId} (hi : WritesDomains i)
    (hf : s.dom[f] = .unbuilt) (hne : f ≠ Config.params.primary) (hprimary : s.dom[Config.params.primary] = .built) :
    Effect (.instr i) s (buildDomain Config.env s.domParent[Config.params.primary] .failed f s) := by
  obtain ⟨-, hc⟩ | ⟨-, hc⟩ :=
    buildDomain_cases Config.env s.domParent[Config.params.primary] .failed f s <;> rw [hc]
  · exact .trans (.write (.secondaryBuilt hi hf hne hprimary)) (.quiet (.of_frame rfl))
  · exact .trans (.write (.secondaryFailed hi hf hne hprimary)) (.quiet (.of_frame rfl))

/-- Building one domain leaves every other one alone. -/
theorem buildDomain_other (e : Env) (p : Parent) (bad : DomStatus) {f f' : FnId} (s : State) (hne : f' ≠ f) :
    (buildDomain e p bad f s).dom[f'] = s.dom[f'] ∧ (buildDomain e p bad f s).domParent[f'] = s.domParent[f'] := by
  obtain ⟨-, hc⟩ | ⟨-, hc⟩ := buildDomain_cases e p bad f s <;> rw [hc] <;>
    simp only [getElem_set_fin, if_neg hne, and_self]

/-- A domain whose creation succeeds is Built under the parent asked for. -/
theorem buildDomain_self {e : Env} (p : Parent) (bad : DomStatus) {f : FnId} {s : State}
    (hok : e.createOk s.tick f = true) :
    (buildDomain e p bad f s).dom[f] = .built ∧ (buildDomain e p bad f s).domParent[f] = p := by
  rw [buildDomain, if_pos hok]
  simp only [getElem_set_fin, if_true, and_self]

/-- The attempts to build the other domains one after the other. -/
theorem effect_foldl_buildDomain {i : Instr} (hi : WritesDomains i) {p : Parent} {fs : List FnId} (hnodup : fs.Nodup)
    {s : State} (hunbuilt : ∀ f ∈ fs, s.dom[f] = .unbuilt) (hne : ∀ f ∈ fs, f ≠ Config.params.primary)
    (hprimary : s.dom[Config.params.primary] = .built) (hp : s.domParent[Config.params.primary] = p) :
    Effect (.instr i) s (fs.foldl (fun t f => buildDomain Config.env p .failed f t) s) := by
  induction fs generalizing s with
  | nil => exact .quiet (.refl s)
  | cons f fs ih =>
    rw [List.nodup_cons] at hnodup
    simp only [List.mem_cons, forall_eq_or_imp] at hunbuilt hne
    have hother := fun f' (h : f' ≠ f) => buildDomain_other Config.env p .failed s h
    have hfirst : Effect (.instr i) s (buildDomain Config.env p .failed f s) := by
      rw [← hp]
      exact effect_buildDomain_secondary hi hunbuilt.1 hne.1 hprimary
    refine hfirst.trans (ih hnodup.2 (fun f' hf' => ?_) hne.2 ?_ ?_)
    · rw [(hother f' fun h => hnodup.1 (h ▸ hf')).1]
      exact hunbuilt.2 f' hf'
    · rw [(hother _ hne.1.symm).1, hprimary]
    · rw [(hother _ hne.1.symm).2, hp]

theorem effect_buildOne (fn : BitVec 8) (s : State) : Effect (.instr (.dbuild fn)) s (buildOne Config.env fn s) := by
  have hi : WritesDomains (.dbuild fn) := .inl ⟨fn, rfl⟩
  obtain ⟨_, _, -, hc⟩ | hc | ⟨f, -, -, hf, rfl, hc⟩ | ⟨f, -, -, hf, hne, hprimary, hc⟩ :=
    buildOne_cases Config.env fn s <;> rw [hc]
  · exact effect_raise
  · exact effect_respond
  · exact ((quiet_askRemap _ s).trans_effect (effect_buildDomain_primary hi hf (drawnParent_ne_none _ s))).respond
  · exact (effect_buildDomain_secondary hi hf hne hprimary).respond

theorem effect_buildAll (s : State) : Effect (.instr .dbuildall) s (buildAll Config.env s) := by
  have hi : WritesDomains .dbuildall := .inr (.inl rfl)
  have hfirst : s.firstBegun = none → Effect (.instr .dbuildall) s
      (buildDomain Config.env (drawnParent Config.env s) .unbuilt Config.params.primary (askRemap Config.env s)) :=
    fun hbegun => (quiet_askRemap _ s).trans_effect
      (effect_buildDomain_primary hi ((firstBegun_eq_none_iff s).1 hbegun _) (drawnParent_ne_none _ s))
  obtain ⟨_, _, -, hc⟩ | ⟨-, hbegun, -, hc⟩ | ⟨-, hbegun, hok, hc⟩ := buildAll_cases Config.env s <;> rw [hc]
  · exact effect_raise
  · exact (hfirst hbegun).respond
  · refine (Effect.trans (hfirst hbegun) ?_).respond
    have hmem : ∀ f ∈ secondaries Config.env, f ≠ Config.params.primary := fun f hf =>
      of_decide_eq_true (List.mem_filter.1 hf).2
    obtain ⟨hbuilt, hparent⟩ := buildDomain_self (s := askRemap Config.env s) (drawnParent Config.env s) .unbuilt hok
    refine effect_foldl_buildDomain hi ((List.nodup_finRange 8).filter _) (fun f hf => ?_) hmem hbuilt hparent
    rw [(buildDomain_other _ _ _ _ (hmem f hf)).1]
    exact (firstBegun_eq_none_iff s).1 hbegun f

theorem effect_tearDown (s : State) : Effect (.instr .dtear) s (tearDown Config.env s) := by
  obtain ⟨_, _, -, hc⟩ | ⟨-, hempty, hc⟩ := tearDown_cases Config.env s <;> rw [hc]
  · exact effect_raise
  · exact .trans (.write (.tornDown hempty)) (.quiet (.of_frame rfl))

theorem effect_queryLookup (i : Instr) (fn sf : BitVec 8) (s : State) :
    Effect (.instr i) s (queryLookup fn sf s) := by
  obtain ⟨_, _, -, hc⟩ | ⟨_, _, -, -, -, ⟨-, hc⟩ | ⟨_, -, hc⟩⟩ := queryLookup_cases fn sf s <;> rw [hc]
  · exact effect_raise
  · exact effect_respond
  · exact effect_respond

theorem effect_initGlue (s : State) : Effect (.instr .ginit) s (initGlue Config.env s) := by
  obtain ⟨-, hc⟩ | ⟨-, hc⟩ := initGlue_cases Config.env s <;> rw [hc]
  · exact effect_raise
  · exact (Write.initialised _).respond _ _

theorem effect_deinitGlue (s : State) : Effect (.instr .gdeinit) s (deinitGlue Config.env s) := by
  obtain ⟨_, _, -, hc⟩ | ⟨-, -, hc⟩ := deinitGlue_cases Config.env s <;> rw [hc]
  · exact effect_raise
  · exact (Write.deinitialised _ _).respond _ _

theorem effect_acceptEdge (h : Word) (s : State) : Effect (.instr (.edge h)) s (acceptEdge Config.env h s) := by
  obtain ⟨-, hc⟩ | ⟨_, _, g, -, hinit, hB, -, hc⟩ | ⟨_, _, hdec, -, hc⟩ := acceptEdge_cases Config.env h s <;> rw [hc]
  · exact .quiet (.of_frame rfl)
  · exact .write (.groupEdge g hinit hB)
  · exact .write (.defaultEdge (by rw [hdec]; rfl))

/-- The first step of every command, and the acceptance of an event. -/
theorem effect_exec {i : Instr} {s t : State} (h : exec i s = .next t) : Effect (.instr i) s t := by
  cases i <;> obtain rfl := Host.Outcome.next.inj h
  case rd32 off => exact effect_checkRal _ _ off ((quiet_gbRead _ s off).trans_effect effect_respond)
  case wr32 off v => exact effect_checkRal _ _ off ((quiet_gbWrite _ s off v).trans_effect effect_respond)
  case setm off m => exact effect_checkRal _ _ off (effect_gbRead_hold _ s off _)
  case clrm off m => exact effect_checkRal _ _ off (effect_gbRead_hold _ s off _)
  case maskset off c m => exact effect_checkRal _ _ off (effect_gbRead_hold _ s off _)
  case alloc fn sf v => exact effect_allocate (.inl ⟨fn, sf, v, rfl⟩) fn sf v s
  case allocb fn v => exact effect_allocate (.inr (.inl ⟨fn, v, rfl⟩)) fn 0x1F v s
  case compose v => exact effect_composeMsg _ v s
  case wrmsg v a d => exact effect_writeMsg _ v a d s
  case mask v => exact effect_withLine _ v fun k => effect_setBusy_gbRead_hold _ s k _ _
  case unmask v => exact effect_unmaskLine _ v s
  case free v => exact effect_releaseLine v s
  case assign fn n g => exact effect_assignVectors fn n g s
  case freei fn => exact effect_freeVectors fn s
  case dbuild fn => exact effect_buildOne fn s
  case dbuildall => exact effect_buildAll s
  case dtear => exact effect_tearDown s
  case dlookup fn sf => exact effect_queryLookup _ fn sf s
  case ginit => exact effect_initGlue s
  case gdeinit => exact effect_deinitGlue s
  case suspend => exact effect_respond
  case resume => exact effect_respond
  case edge ev => exact effect_acceptEdge ev s

/-! ## The agents -/

/-- A later step of a line command writes a register, sets its line and answers. -/
theorem effect_gbWrite_setLine_respond {c : Cause} (e : Env) (s : State) (off v : Word) (i : SlotIx) (ls : LineState) :
    Effect c s (((s.gbWrite e off v).setLine i ls false).respond .ok []) :=
  (quiet_gbWrite e s off v).trans_effect ((quiet_setLine _ i ls false).trans_effect effect_respond)

/-- The later steps of a command in progress. -/
theorem effect_resumeWork {c : Cause} (w : Work) (s : State) : Effect c s (resumeWork Config.env w s) := by
  cases w with
  | setmS2 off m t => exact .quiet (.of_frame rfl)
  | clrmS2 off m t => exact .quiet (.of_frame rfl)
  | masksetS2 off cl m t => exact .quiet (.of_frame rfl)
  | wrmsgS2 i f l addr data t => exact .quiet (.of_frame rfl)
  | wrmsgS3 i f l addr data => exact .quiet (.of_frame rfl)
  | wrmsgS4 i f l data => exact .quiet (.of_frame rfl)
  | wrmsgS5 i f l data => exact .quiet (.of_frame rfl)
  | wrmsgS6 i => exact .quiet (.of_frame rfl)
  | wrmsgS7 i t => exact effect_gbWrite_setLine_respond _ s _ _ i _
  | maskS2 i f b t => exact effect_gbWrite_setLine_respond _ s _ _ i _
  | unmaskS2 i f b t => exact effect_gbWrite_setLine_respond _ s _ _ i _

/-- Step T5: the bit is handled; with no bit left the agent goes to Idle all the same (log 34). -/
theorem effect_demuxT5 {g : Group} {s : State} (hphase : (s.dmx.get g).phase = .dispatching) :
    Effect (.group g) s (demuxT5 Config.env g s) := by
  unfold demuxT5
  split
  · next hnone =>
    have hzero := (chooseBit_eq_none_iff _ _ _).1 hnone
    have hwrite := Write.bitHandled (s.dmx.get g).pendLeft hphase
    rw [if_pos hzero] at hwrite
    exact .write hwrite
  · next i _ =>
    have hquiet := quiet_demuxBit Config.env g i s
    refine hquiet.trans_effect (.write (.bitHandled _ ?_))
    rw [hquiet.dmx, hphase]

theorem effect_stepDemux (g : Group) (s : State) : Effect (.group g) s (stepDemux Config.env g s) := by
  unfold stepDemux
  split
  · next hphase =>
    obtain ⟨hpend, hfree, hc⟩ | ⟨-, hc⟩ := demuxT1_cases g s <;> rw [hc]
    · exact .write (.lockTaken hpend hfree hphase)
    · exact .quiet (.refl s)
  · next hphase => exact (quiet_gbWrite Config.env s _ _).trans_effect (.write (.lockKept .t3 hphase))
  · next hphase => exact (quiet_gbRead Config.env s _).trans_effect (.write (.lockKept _ hphase))
  · next a hphase => exact .write (.lockFreed _ hphase)
  · next hphase => exact effect_demuxT5 hphase

theorem effect_stepDefault (s : State) : Effect .other s (stepDefault Config.env s) := by
  unfold stepDefault
  split
  · exact .quiet (.refl s)
  · next h _ =>
    dsimp only
    split <;> exact .trans (.write (.hwirqTaken h)) (.quiet (.of_frame rfl))

/-- In the state `s` it is the cause's turn. -/
def CausedIn (s : State) : Cause → Prop
  | .instr i => (∃ r, RunsFrom s r i) ∨ ∃ h, i = .edge h ∧ s.turn = .env (.edge h)
  | .group g => s.turn = .dmx g
  | .creation => s.turn = .env .create
  | .other => True

theorem effect_stepRequester {s t : State} {r : Nat} (hturn : s.turn = .req r) (h : stepRequester r s = .next t) :
    ∃ c, CausedIn s c ∧ Effect c s t := by
  obtain rfl | ⟨p, w, -, -, rfl⟩ | ⟨p, i, rest, hp, hidle, hdec, hx⟩ | ⟨p, hd, rest, -, -, -, rfl⟩ :=
    stepRequester_cases h
  · exact ⟨.other, trivial, .quiet (.refl _)⟩
  · exact ⟨.other, trivial, effect_resumeWork w s⟩
  · exact ⟨.instr i, .inl ⟨r, hturn, p, rest, hp, hidle, hdec⟩,
      (quiet_takeWords s r rest).trans_effect (effect_exec hx)⟩
  · exact ⟨.other, trivial, (quiet_takeWords s r rest).trans_effect effect_raise⟩

theorem effect_stepEnvironment {s t : State} {a : Arrival} (hturn : s.turn = .env a)
    (h : stepEnvironment a s = .next t) : ∃ c, CausedIn s c ∧ Effect c s t := by
  obtain ⟨-, rfl⟩ | ⟨r, w, -, rfl⟩ | ⟨ev, rfl, rfl⟩ | ⟨rfl, rfl⟩ := stepEnvironment_cases h
  · exact ⟨.other, trivial, .quiet (.refl _)⟩
  · exact ⟨.other, trivial, .quiet (quiet_onPort s r _)⟩
  · exact ⟨.instr (.edge ev), .inr ⟨ev, rfl, hturn⟩, effect_acceptEdge ev s⟩
  · exact ⟨.creation, hturn, .write .created⟩

/-- The turn's step, then the schedule. -/
theorem step_of_stepTurn {s u : State} (h : stepTurn s.turn s = .next u) : step s = .next (u.advance Config.env) :=
  (step_eq_next_iff s _).2 ⟨u, h, rfl⟩

/-- Every step is a chain of quiet changes and of the writes of what has the turn. -/
theorem effect_step {s t : State} (h : step s = .next t) : ∃ c, CausedIn s c ∧ Effect c s t := by
  obtain ⟨u, rfl, hagent⟩ := step_cases h
  obtain ⟨c, hc, hu⟩ : ∃ c, CausedIn s c ∧ Effect c s u := by
    obtain ⟨r, hturn, hr⟩ | ⟨g, hturn, rfl⟩ | ⟨-, rfl⟩ | ⟨a, hturn, ha⟩ := hagent
    · exact effect_stepRequester hturn hr
    · exact ⟨.group g, hturn, effect_stepDemux g s⟩
    · exact ⟨.other, trivial, effect_stepDefault s⟩
    · exact effect_stepEnvironment hturn ha
  exact ⟨c, hc, hu.trans (.quiet (quiet_advance _ u))⟩

/-- A property that every quiet change and every write keeps is kept by every step. -/
theorem step_keeps {P : State → Prop} (hquiet : ∀ s t, Quiet s t → P s → P t)
    (hwrite : ∀ c s t, Write c s t → P s → P t) {s t : State} (hs : P s) (h : step s = .next t) : P t := by
  obtain ⟨c, -, he⟩ := effect_step h
  exact he.keeps hquiet (hwrite c) hs

end Sys2Proof
end

section
/-! PROOFS. The values of the reset state, each as a read of one field (R43). -/

namespace Sys2Proof

open Sys2Proof.Machine

theorem reset_slots (i : SlotIx) : State.reset.slots[i] = none := by simp [State.reset]
theorem reset_dom (f : FnId) : State.reset.dom[f] = .unbuilt := by simp [State.reset]
theorem reset_domParent (f : FnId) : State.reset.domParent[f] = .none := by simp [State.reset]
theorem reset_mode (f : FnId) : State.reset.mode[f] = .none := by simp [State.reset]
theorem reset_grant (f : FnId) : State.reset.grant[f] = 0 := by simp [State.reset]
theorem reset_ependG (g : Group) : State.reset.ependG.get g = false := by cases g <;> rfl
theorem reset_dmx (g : Group) : State.reset.dmx.get g = Dmx.rest := by cases g <;> rfl

theorem reset_port {r : Nat} {p : Port} (h : State.reset.ports[r]? = some p) : p = Port.empty :=
  Port.mem_atReset.1 (List.mem_of_getElem? h)

theorem reset_workOf (r : Nat) : workOf State.reset r = none := by
  unfold workOf
  cases hp : State.reset.ports[r]? with
  | none => rfl
  | some p => rw [reset_port hp]; rfl

end Sys2Proof
end

section
/-! PROOFS. O53: every step keeps the table invariants (R32). Of the writes only ALLOC's makes a line live. -/

namespace Sys2Proof

open Sys2Proof.Machine

theorem encHwirq_toNat (f : FnId) (l : SubId) : (encHwirq f l).toNat = 256 * f.val + l.val := by
  have hor : f.val <<< 8 ||| l.val = f.val <<< 8 + l.val :=
    (Nat.shiftLeft_add_eq_or_of_lt (by omega) f.val).symm
  simp only [encHwirq, BitVec.toNat_or, BitVec.toNat_shiftLeft, BitVec.toNat_ofNat]
  rw [Nat.mod_eq_of_lt (show f.val < 2 ^ 32 by omega), Nat.mod_eq_of_lt (show l.val < 2 ^ 32 by omega),
    Nat.mod_eq_of_lt (show f.val <<< 8 < 2 ^ 32 by rw [Nat.shiftLeft_eq]; omega), hor, Nat.shiftLeft_eq]
  omega

/-- Different lines have different hwirqs (R120, R123). -/
theorem encHwirq_inj {f f' : FnId} {l l' : SubId} (h : encHwirq f l = encHwirq f' l') : f = f' ∧ l = l' := by
  have h' := congrArg BitVec.toNat h
  rw [encHwirq_toNat, encHwirq_toNat] at h'
  exact ⟨Fin.ext (by omega), Fin.ext (by omega)⟩

/-- What the table invariants ask of one live line `l` in the slot of `v`: R32 (d), (e), and the computed fields. -/
structure LineOk (dom : Vector DomStatus 8) (v : Word) (l : Line) : Prop where
  built : dom[l.f] = .built
  virq : l.virq = v
  sub : l.s = bcast ∨ l.s.val < Config.params.subfuncCount l.f
  mask : l.mbits = maskBits (Config.params.subfuncCount l.f) l.s

/-- What they ask of two live lines: R32 (a), (b), (c). -/
def LinesApart (v : Word) (l : Line) (v' : Word) (l' : Line) : Prop :=
  v ≠ v' ∧ (l.f = l'.f → l.s ≠ l'.s ∧ l.s ≠ bcast ∧ l'.s ≠ bcast)

theorem LinesApart.symm {v v' : Word} {l l' : Line} (h : LinesApart v l v' l') : LinesApart v' l' v l := by
  obtain ⟨hv, hl⟩ := h
  refine ⟨hv.symm, fun hf => ?_⟩
  obtain ⟨hs, hb, hb'⟩ := hl hf.symm
  exact ⟨hs.symm, hb', hb⟩

theorem tableInv_iff (s : State) : TableInv s ↔
    (∀ (i : SlotIx) (v : Word), s.slots[i] = some v → LineOk s.dom v s.lines[i]) ∧
    ∀ (i j : SlotIx) (v w : Word), i ≠ j → s.slots[i] = some v → s.slots[j] = some w →
      LinesApart v s.lines[i] w s.lines[j] := by
  have hlive : ∀ {i : SlotIx} {v : Word}, s.slots[i] = some v → s.slots[i] ≠ none := fun h => by simp [h]
  constructor
  · rintro ⟨hvirq, hhwirq, hbcast, hdom, hagree, hsub, hmask⟩
    refine ⟨fun i v hi => ⟨hdom i (hlive hi), hagree i v hi, hsub i (hlive hi), hmask i (hlive hi)⟩,
      fun i j v w hij hi hj => ⟨?_, fun hf => ⟨fun hs => ?_, fun hs => ?_, fun hs => ?_⟩⟩⟩
    · rintro rfl
      exact hij (hvirq i j v hi hj)
    · exact hij (hhwirq i j (hlive hi) (hlive hj) (by rw [hf, hs]))
    · exact hij (hbcast i j (hlive hi) (hlive hj) hf hs)
    · exact hij (hbcast j i (hlive hj) (hlive hi) hf.symm hs).symm
  · rintro ⟨hok, hapart⟩
    have hone : ∀ i : SlotIx, s.slots[i] ≠ none → ∃ v, s.slots[i] = some v := fun i h => Option.ne_none_iff_exists'.1 h
    refine ⟨fun i j v hi hj => ?_, fun i j hi hj he => ?_, fun i j hi hj hf hs => ?_, fun i hi => ?_,
      fun i v hi => (hok i v hi).virq, fun i hi => ?_, fun i hi => ?_⟩
    · by_contra hij
      exact (hapart i j v v hij hi hj).1 rfl
    · obtain ⟨v, hv⟩ := hone i hi
      obtain ⟨w, hw⟩ := hone j hj
      obtain ⟨hf, hs⟩ := encHwirq_inj he
      by_contra hij
      exact ((hapart i j v w hij hv hw).2 hf).1 hs
    · obtain ⟨v, hv⟩ := hone i hi
      obtain ⟨w, hw⟩ := hone j hj
      by_contra hij
      exact ((hapart i j v w hij hv hw).2 hf).2.1 hs
    · obtain ⟨v, hv⟩ := hone i hi
      exact (hok i v hv).built
    · obtain ⟨v, hv⟩ := hone i hi
      exact (hok i v hv).sub
    · obtain ⟨v, hv⟩ := hone i hi
      exact (hok i v hv).mask

/-- Every live line was live before, in the same slot and the same but for state and busy bit, and its domain is still
Built. -/
theorem TableInv.of_live {s t : State} (hs : TableInv s)
    (hlive : ∀ (j : SlotIx) (v : Word), t.slots[j] = some v → s.slots[j] = some v ∧
      t.lines[j] = { s.lines[j] with st := t.lines[j].st, busy := t.lines[j].busy } ∧
      (s.dom[s.lines[j].f] = .built → t.dom[s.lines[j].f] = .built)) : TableInv t := by
  rw [tableInv_iff] at hs ⊢
  obtain ⟨hok, hapart⟩ := hs
  refine ⟨fun i v hi => ?_, fun i j v w hij hi hj => ?_⟩
  · obtain ⟨hsi, hline, hdom⟩ := hlive i v hi
    obtain ⟨hbuilt, hvirq, hsub, hmask⟩ := hok i v hsi
    rw [hline]
    exact ⟨hdom hbuilt, hvirq, hsub, hmask⟩
  · obtain ⟨hsi, hline, -⟩ := hlive i v hi
    obtain ⟨hsj, hline', -⟩ := hlive j w hj
    rw [hline, hline']
    exact hapart i j v w hij hsi hsj

/-- A write that leaves the table alone and every Built domain Built. -/
theorem TableInv.of_dom {s t : State} (hs : TableInv s) (hslots : t.slots = s.slots) (hlines : t.lines = s.lines)
    (hdom : ∀ f : FnId, s.dom[f] = .built → t.dom[f] = .built) : TableInv t :=
  hs.of_live fun j v hj => ⟨hslots ▸ hj, by rw [hlines], hdom _⟩

/-- ALLOC's new line is in order and apart from every live one. -/
theorem TableInv.allocated {s : State} {f : FnId} {sub : SubId} {virq : Word} {k : SlotIx} (hs : TableInv s)
    (hsub : sub = bcast ∨ sub.val < Config.params.subfuncCount f) (hdom : s.dom[f] = .built)
    (hvirq : ∀ j : SlotIx, s.slots[j] ≠ some virq) (hclash : s.clash f sub = false) :
    TableInv { s with slots := s.slots.set k (some virq), lines := s.lines.set k (newLine Config.env f sub virq) } := by
  rw [tableInv_iff] at hs ⊢
  obtain ⟨hok, hapart⟩ := hs
  have hnew : ∀ (j : SlotIx) (w : Word), s.slots[j] = some w →
      LinesApart virq (newLine Config.env f sub virq) w s.lines[j] := by
    intro j w hj
    refine ⟨fun h => hvirq j (h ▸ hj), fun hf => ?_⟩
    have hno : ¬ (s.lines[j].s = sub ∨ s.lines[j].s = bcast ∨ sub = bcast) := fun h =>
      Bool.false_ne_true (hclash.symm.trans ((clash_iff s f sub).2 ⟨j, ⟨by simp [hj], hf.symm⟩, h⟩))
    push Not at hno
    obtain ⟨h1, h2, h3⟩ := hno
    exact ⟨h1.symm, h3, h2⟩
  simp only [getElem_set_fin]
  refine ⟨fun i v hi => ?_, fun i j v w hij hi hj => ?_⟩
  · split_ifs at hi ⊢ with hik
    · obtain rfl := Option.some.inj hi
      exact ⟨hdom, rfl, hsub, rfl⟩
    · exact hok i v hi
  · split_ifs at hi hj ⊢ with hik hjk hjk
    · exact absurd (hik.trans hjk.symm) hij
    · obtain rfl := Option.some.inj hi
      exact hnew j w hj
    · obtain rfl := Option.some.inj hj
      exact (hnew i v hi).symm
    · exact hapart i j v w hij hi hj

/-- A domain that was Built is not touched by a build, which begins from Unbuilt. -/
theorem dom_set_of_unbuilt {dom : Vector DomStatus 8} {f f' : FnId} {d : DomStatus} (hf : dom[f] = .unbuilt)
    (hf' : dom[f'] = .built) : (dom.set f d)[f'] = .built := by
  rw [getElem_set_fin, if_neg, hf']
  rintro rfl
  rw [hf] at hf'
  cases hf'

theorem tableInv_write {c : Cause} {s t : State} (h : Write c s t) (hs : TableInv s) : TableInv t := by
  cases h with
  | allocated _ hsub hdom hvirq hclash => exact hs.allocated hsub hdom hvirq hclash
  | freed k l =>
    refine hs.of_live fun j v hj => ?_
    simp only [getElem_set_fin] at hj ⊢
    split_ifs at hj ⊢
    exact ⟨hj, rfl, id⟩
  | primaryBuilt _ hf => exact hs.of_dom rfl rfl fun _ => dom_set_of_unbuilt hf
  | secondaryBuilt _ hf => exact hs.of_dom rfl rfl fun _ => dom_set_of_unbuilt hf
  | secondaryFailed _ hf => exact hs.of_dom rfl rfl fun _ => dom_set_of_unbuilt hf
  | tornDown hempty => exact hs.of_live fun j v hj => absurd ((hempty j).symm.trans hj) (by simp)
  | created => exact hs.of_live fun j v hj => absurd ((reset_slots j).symm.trans hj) (by simp)
  | _ => exact hs.of_dom rfl rfl fun _ => id

/-- Settles O53: of the writes only ALLOC's makes a line live, and its checks are the invariants. -/
theorem stepKeepsTable : Obligations.StepKeepsTable := fun _ _ hs hstep =>
  step_keeps (P := TableInv)
    (fun _ _ h hs => hs.of_live fun j _ hj => ⟨h.slots ▸ hj, h.lines j, fun hb => by rw [h.dom]; exact hb⟩)
    (fun _ _ _ => tableInv_write) hs hstep

end Sys2Proof
end

section
/-! PROOFS. O54: every step keeps the grant invariants (R34, R162). -/

namespace Sys2Proof

open Sys2Proof.Machine

theorem modeForbids_eq_false_iff (m : GrantMode) (sub : SubId) : modeForbids m sub = false ↔
    (∀ n, m = .perSub n → sub ≠ bcast ∧ sub.val < n.val) ∧ (m = .broadcast → sub = bcast) := by
  cases m <;> simp [modeForbids]

/-- Each function's mode and grant agree, and the mode admits the function's live lines. -/
theorem grantInv_iff (s : State) : GrantInv s ↔ (∀ f : FnId, GrantOk f s.mode[f] s.grant[f]) ∧
    ∀ i : SlotIx, s.slots[i] ≠ none → modeForbids s.mode[s.lines[i].f] s.lines[i].s = false := by
  simp only [modeForbids_eq_false_iff]
  constructor
  · rintro ⟨hnone, hper, hbcast, hperLines, hbcastLines⟩
    refine ⟨fun f => ?_, fun i hi => ⟨fun n hn => hperLines i n hi hn, hbcastLines i hi⟩⟩
    cases hm : s.mode[f] with
    | none => exact hnone f hm
    | perSub n => exact hper f n hm
    | broadcast => exact hbcast f hm
  · rintro ⟨hok, hlines⟩
    refine ⟨fun f hm => ?_, fun f n hm => ?_, fun f hm => ?_, fun i n hi => (hlines i hi).1 n,
      fun i hi => (hlines i hi).2⟩
    all_goals
      have h := hok f
      rw [hm] at h
      exact h

/-- The same modes and grants, and every live line was live before with the same function and subfunction. -/
theorem GrantInv.of_live {s t : State} (hs : GrantInv s) (hmode : t.mode = s.mode) (hgrant : t.grant = s.grant)
    (hlive : ∀ j : SlotIx, t.slots[j] ≠ none → s.slots[j] ≠ none ∧
      t.lines[j] = { s.lines[j] with st := t.lines[j].st, busy := t.lines[j].busy }) : GrantInv t := by
  rw [grantInv_iff] at hs ⊢
  obtain ⟨hok, hlines⟩ := hs
  refine ⟨by rw [hmode, hgrant]; exact hok, fun i hi => ?_⟩
  obtain ⟨hi', hline⟩ := hlive i hi
  have hf : t.lines[i].f = s.lines[i].f := by rw [hline]
  have hsub : t.lines[i].s = s.lines[i].s := by rw [hline]
  simp only [hmode, hf, hsub]
  exact hlines i hi'

/-- Every grant is gone and no line is live. -/
theorem grantInv_of_empty {s : State} (hmode : ∀ f : FnId, s.mode[f] = .none) (hgrant : ∀ f : FnId, s.grant[f] = 0)
    (hslots : ∀ i : SlotIx, s.slots[i] = none) : GrantInv s := by
  rw [grantInv_iff]
  refine ⟨fun f => ?_, fun i hi => absurd (hslots i) hi⟩
  rw [hmode, hgrant]
  rfl

/-- ALLOC's new line is one the mode admits. -/
theorem GrantInv.allocated {s : State} {f : FnId} {sub : SubId} {virq : Word} {k : SlotIx} (hs : GrantInv s)
    (hmode : modeForbids s.mode[f] sub = false) : GrantInv { s with
      slots := s.slots.set k (some virq), lines := s.lines.set k (newLine Config.env f sub virq) } := by
  rw [grantInv_iff] at hs ⊢
  obtain ⟨hok, hlines⟩ := hs
  refine ⟨hok, fun i hi => ?_⟩
  simp only [getElem_set_fin] at hi ⊢
  split_ifs at hi ⊢
  · exact hmode
  · exact hlines i hi

/-- A new mode and grant of a function with no live line. -/
theorem GrantInv.granted {s : State} {f : FnId} {m : GrantMode} {w : Word} (hs : GrantInv s) (hok : GrantOk f m w)
    (hlive : s.anyLive f = false) : GrantInv { s with mode := s.mode.set f m, grant := s.grant.set f w } := by
  rw [grantInv_iff] at hs ⊢
  obtain ⟨hoks, hlines⟩ := hs
  simp only [getElem_set_fin]
  refine ⟨fun f' => ?_, fun i hi => ?_⟩
  · split_ifs with h
    · exact h ▸ hok
    · exact hoks f'
  · rw [if_neg]
    · exact hlines i hi
    · exact fun hf => Bool.false_ne_true (hlive.symm.trans ((anyLive_iff s f).2 ⟨i, hi, hf⟩))

theorem grantInv_write {c : Cause} {s t : State} (h : Write c s t) (hs : GrantInv s) : GrantInv t := by
  cases h with
  | allocated _ _ _ _ _ hmode => exact hs.allocated hmode
  | freed k l =>
    refine hs.of_live rfl rfl fun j hj => ?_
    simp only [getElem_set_fin] at hj ⊢
    split_ifs at hj ⊢
    · exact absurd rfl hj
    · exact ⟨hj, rfl⟩
  | granted _ hok hlive => exact hs.granted hok hlive
  | tornDown hempty => exact grantInv_of_empty (by simp) (by simp) hempty
  | created => exact grantInv_of_empty reset_mode reset_grant reset_slots
  | _ => exact hs.of_live rfl rfl fun _ hj => ⟨hj, rfl⟩

/-- Settles O54: a mode is written only of a function with no live line, and ALLOC asks the mode. -/
theorem stepKeepsGrants : Obligations.StepKeepsGrants := fun _ _ hs hstep =>
  step_keeps (P := GrantInv)
    (fun _ _ h hs => hs.of_live h.mode h.grant fun j hj => ⟨h.slots ▸ hj, h.lines j⟩)
    (fun _ _ _ => grantInv_write) hs hstep

end Sys2Proof
end

section
/-! PROOFS. O55: every step keeps the domain invariants (R33, R171, R177). -/

namespace Sys2Proof

open Sys2Proof.Machine

theorem DomainInv.congr {s t : State} (hs : DomainInv s) (hdom : t.dom = s.dom) (hparent : t.domParent = s.domParent) :
    DomainInv t := by
  obtain ⟨h1, h2, h3, h4⟩ := hs
  constructor <;> rw [hdom]
  · exact h1
  · exact h2
  · rw [hparent]; exact h3
  · rw [hparent]; exact h4

theorem domainInv_of_unbuilt {s : State} (hdom : ∀ f : FnId, s.dom[f] = .unbuilt)
    (hparent : ∀ f : FnId, s.domParent[f] = .none) : DomainInv s := by
  constructor
  · exact fun f _ hf => absurd (hdom f) hf
  · rw [hdom]; decide
  · intro f hf
    rw [hdom] at hf
    cases hf
  · exact fun f _ => hparent f

/-- While the primary is Unbuilt so is every other domain. -/
theorem DomainInv.all_unbuilt {s : State} (hs : DomainInv s) (hf : s.dom[Config.params.primary] = .unbuilt) (f : FnId) :
    s.dom[f] = .unbuilt := by
  by_contra hne
  by_cases hfp : f = Config.params.primary
  · exact hne (hfp ▸ hf)
  · have hb := hs.primaryFirst f hfp hne
    rw [hf] at hb
    cases hb

/-- The primary is built first, alone. -/
theorem DomainInv.primaryBuilt {s : State} {p : Parent} (hs : DomainInv s)
    (hf : s.dom[Config.params.primary] = .unbuilt) (hp : p ≠ .none) : DomainInv { s with
      dom := s.dom.set Config.params.primary .built, domParent := s.domParent.set Config.params.primary p } := by
  have hall := hs.all_unbuilt hf
  have hother : ∀ f : FnId, s.dom[f] ≠ .built := fun f h => by rw [hall f] at h; cases h
  constructor <;> simp only [getElem_set_fin, if_true]
  · exact fun _ _ _ => trivial
  · decide
  · intro f hfb
    split_ifs at hfb ⊢
    · exact ⟨hp, rfl⟩
    · exact absurd hfb (hother f)
  · intro f hfb
    split_ifs at hfb ⊢
    · exact absurd rfl hfb
    · exact hs.otherParent f (hother f)

/-- Another domain is built under the primary's parent. -/
theorem DomainInv.secondaryBuilt {s : State} {f : FnId} (hs : DomainInv s) (hne : f ≠ Config.params.primary)
    (hprimary : s.dom[Config.params.primary] = .built) : DomainInv { s with
      dom := s.dom.set f .built, domParent := s.domParent.set f s.domParent[Config.params.primary] } := by
  constructor <;> simp only [getElem_set_fin, if_neg hne.symm]
  · exact fun _ _ _ => hprimary
  · exact hs.primaryNotFailed
  · intro f' hfb
    split_ifs at hfb ⊢
    · exact ⟨(hs.builtParent _ hprimary).1, rfl⟩
    · exact hs.builtParent f' hfb
  · intro f' hfb
    split_ifs at hfb ⊢
    · exact absurd rfl hfb
    · exact hs.otherParent f' hfb

/-- Another domain's creation failed, and it has no parent. -/
theorem DomainInv.secondaryFailed {s : State} {f : FnId} (hs : DomainInv s) (hf : s.dom[f] = .unbuilt)
    (hne : f ≠ Config.params.primary) (hprimary : s.dom[Config.params.primary] = .built) :
    DomainInv { s with dom := s.dom.set f .failed } := by
  constructor <;> simp only [getElem_set_fin, if_neg hne.symm]
  · exact fun _ _ _ => hprimary
  · exact hs.primaryNotFailed
  · intro f' hfb
    split_ifs at hfb
    exact hs.builtParent f' hfb
  · intro f' hfb
    by_cases h : f' = f
    · exact h ▸ hs.otherParent f (by rw [hf]; decide)
    · rw [if_neg h] at hfb
      exact hs.otherParent f' hfb

theorem domainInv_write {c : Cause} {s t : State} (h : Write c s t) (hs : DomainInv s) : DomainInv t := by
  cases h with
  | primaryBuilt _ hf hp => exact hs.primaryBuilt hf hp
  | secondaryBuilt _ _ hne hprimary => exact hs.secondaryBuilt hne hprimary
  | secondaryFailed _ hf hne hprimary => exact hs.secondaryFailed hf hne hprimary
  | tornDown => exact domainInv_of_unbuilt (by simp) (by simp)
  | created => exact domainInv_of_unbuilt reset_dom reset_domParent
  | _ => exact hs.congr rfl rfl

/-- Settles O55: a domain other than the primary is built only under a Built primary and with its parent. -/
theorem stepKeepsDomains : Obligations.StepKeepsDomains := fun _ _ hs hstep =>
  step_keeps (P := DomainInv) (fun _ _ h hs => hs.congr h.dom h.domParent) (fun _ _ _ => domainInv_write) hs hstep

end Sys2Proof
end

section
/-! PROOFS. O56: every step keeps the demultiplexer's invariants (R35–R37, R194–R199). -/

namespace Sys2Proof

open Sys2Proof.Machine

/-- The pending set changes, the lock and the agents do not. -/
theorem DemuxInv.pending {s t : State} (hs : DemuxInv s) (hlock : t.ackLock = s.ackLock) (hdmx : t.dmx = s.dmx)
    (hrising : t.ependH.Pairwise (· < ·)) (hvalid : ∀ h ∈ t.ependH, (decHwirq h).isSome = true) : DemuxInv t := by
  obtain ⟨h1, h2, -, -⟩ := hs
  constructor
  · rw [hlock, hdmx]; exact h1
  · rw [hdmx]; exact h2
  · exact hrising
  · exact hvalid

theorem DemuxInv.congr {s t : State} (hs : DemuxInv s) (hlock : t.ackLock = s.ackLock) (hdmx : t.dmx = s.dmx)
    (hpend : t.ependH = s.ependH) : DemuxInv t :=
  hs.pending hlock hdmx (hpend ▸ hs.rising) (hpend ▸ hs.valid)

/-- The agent `g` changes its state and perhaps the lock: after it, it holds the lock just if it is between T1 and
T4, and any other agent holds the lock just if it did before. -/
theorem DemuxInv.agent {s t : State} {g : Group} {d : Dmx} (hs : DemuxInv s) (hdmx : t.dmx = s.dmx.set g d)
    (hpend : t.ependH = s.ependH) (hown : t.ackLock = .held g ↔ ∃ k, d.phase = .locked k)
    (hother : ∀ g' ≠ g, t.ackLock = .held g' ↔ s.ackLock = .held g')
    (hbits : d.phase = .dispatching ↔ d.pendLeft ≠ 0) : DemuxInv t := by
  obtain ⟨h1, h2, h3, h4⟩ := hs
  constructor
  · intro g'
    rw [hdmx, PerGroup.get_set]
    split_ifs with h
    · exact h ▸ hown
    · exact (hother g' h).trans (h1 g')
  · intro g'
    rw [hdmx, PerGroup.get_set]
    split_ifs
    · exact hbits
    · exact h2 g'
  · rw [hpend]; exact h3
  · rw [hpend]; exact h4

/-- The agent's state once the lock is freed or a bit handled: it dispatches just while bits are left. -/
theorem dispatching_iff_left (left : Word) :
    (if left = 0 then DmxPhase.idle else .dispatching) = .dispatching ↔ left ≠ 0 := by
  split_ifs with h
  · exact iff_of_false (by simp) (not_not_intro h)
  · exact iff_of_true rfl h

theorem not_locked_left (left : Word) : ¬ ∃ k, (if left = 0 then DmxPhase.idle else .dispatching) = .locked k := by
  split_ifs <;> simp

/-- No other agent holds the lock than the one between T1 and T4. -/
theorem DemuxInv.held_unique {s : State} {g g' : Group} {k k' : LockStep} (hs : DemuxInv s)
    (hg : (s.dmx.get g).phase = .locked k) (hg' : (s.dmx.get g').phase = .locked k') : g = g' := by
  have h := (hs.lockHolder g).2 ⟨k, hg⟩
  have h' := (hs.lockHolder g').2 ⟨k', hg'⟩
  exact AckLock.held.inj (h.symm.trans h')

/-- An agent that is not dispatching has no bits left. -/
theorem DemuxInv.pendLeft_zero {s : State} {g : Group} (hs : DemuxInv s) (h : (s.dmx.get g).phase ≠ .dispatching) :
    (s.dmx.get g).pendLeft = 0 := by
  by_contra hne
  exact h ((hs.bitsLeft g).2 hne)

theorem demuxInv_reset : DemuxInv State.reset := by
  constructor
  · intro g
    rw [reset_dmx]
    simp [State.reset, Dmx.rest]
  · intro g
    rw [reset_dmx]
    simp [Dmx.rest]
  · exact .nil
  · exact fun h hh => by cases hh

theorem demuxInv_write {c : Cause} {s t : State} (h : Write c s t) (hs : DemuxInv s) : DemuxInv t := by
  cases h with
  | defaultEdge hvalid =>
    refine hs.pending rfl rfl (setInsert_rising _ _ hs.rising) fun x hx => ?_
    obtain rfl | hx := (mem_setInsert _ x _).1 hx
    · exact hvalid
    · exact hs.valid x hx
  | hwirqTaken w =>
    exact hs.pending rfl rfl (setErase_rising w _ hs.rising) fun x hx => hs.valid x ((mem_setErase w x _).1 hx).1
  | lockTaken _ hfree hphase =>
    have hzero := hs.pendLeft_zero (by rw [hphase]; decide)
    refine hs.agent rfl rfl (by simp) (fun g' hg' => ?_) (by simp [hzero])
    rw [hfree]
    simpa using hg'.symm
  | lockKept k' hphase =>
    have hzero := hs.pendLeft_zero (by rw [hphase]; simp)
    have hheld := (hs.lockHolder _).2 ⟨_, hphase⟩
    exact hs.agent rfl rfl (by simpa using hheld) (fun _ _ => .rfl) (by simp [hzero])
  | lockFreed left hphase =>
    have hheld := (hs.lockHolder _).2 ⟨_, hphase⟩
    refine hs.agent rfl rfl (iff_of_false (by simp) (not_locked_left left)) (fun g' hg' => ?_)
      (dispatching_iff_left left)
    rw [hheld]
    simpa using hg'.symm
  | bitHandled left hphase =>
    refine hs.agent rfl rfl (iff_of_false (fun hheld => ?_) (not_locked_left left)) (fun _ _ => .rfl)
      (dispatching_iff_left left)
    obtain ⟨k, hk⟩ := (hs.lockHolder _).1 hheld
    rw [hphase] at hk
    cases hk
  | created => exact demuxInv_reset.congr rfl rfl rfl
  | _ => exact hs.congr rfl rfl rfl

/-- Settles O56: T1 takes the lock only while it is free and T4 frees it, so the holder is the one agent between
them. -/
theorem stepKeepsDemux : Obligations.StepKeepsDemux := fun s t hs hstep => by
  have ht : DemuxInv t := step_keeps (P := DemuxInv) (fun _ _ h hs => hs.congr h.ackLock h.dmx h.ependH)
    (fun _ _ _ => demuxInv_write) hs hstep
  exact ⟨ht, fun _ _ _ _ => ht.held_unique⟩

end Sys2Proof
end

section
/-! PROOFS. O57: every step keeps the latched variant (R27, R200). -/

namespace Sys2Proof

open Sys2Proof.Machine

theorem VariantInv.congr {s t : State} (hs : VariantInv s) (hinit : t.glueInit = s.glueInit)
    (hlatch : t.variantLatch = s.variantLatch) (hlock : t.ackLock = s.ackLock) (hpend : t.ependG = s.ependG)
    (hdmx : t.dmx = s.dmx) : VariantInv t := by
  obtain ⟨h1, h2⟩ := hs
  constructor
  · rw [hinit, hlatch]; exact h1
  · rw [hlock, hpend, hdmx]; exact h2

/-- On variant A an agent has nothing to do, so what a moving one does cannot be there. -/
theorem VariantInv.of_moving {s t : State} {g : Group} (hs : VariantInv s) (hinit : t.glueInit = s.glueInit)
    (hlatch : t.variantLatch = s.variantLatch) (hmoving : s.ependG.get g = true ∨ (s.dmx.get g).phase ≠ .idle) :
    VariantInv t := by
  obtain ⟨h1, h2⟩ := hs
  constructor
  · rw [hinit, hlatch]; exact h1
  · intro hA
    obtain ⟨hpend, hidle⟩ := (h2 hA).2 g
    obtain hmoving | hmoving := hmoving
    · rw [hpend] at hmoving
      cases hmoving
    · exact absurd hidle hmoving

theorem variantInv_reset : VariantInv State.reset := by
  constructor
  · intro h
    cases h
  · exact fun _ => ⟨rfl, fun g => ⟨reset_ependG g, by rw [reset_dmx]; rfl⟩⟩

theorem variantInv_write {c : Cause} {s t : State} (h : Write c s t) (hs : VariantInv s) : VariantInv t := by
  cases h with
  | initialised => exact ⟨fun _ => rfl, hs.quietOnA⟩
  | deinitialised => exact ⟨fun h => (by cases h), hs.quietOnA⟩
  | groupEdge _ hinit hB =>
    refine ⟨hs.latched, fun hA => ?_⟩
    have hstrap := hs.latched hinit
    rw [hA, hB] at hstrap
    cases hstrap
  | lockTaken hpend => exact hs.of_moving rfl rfl (.inl hpend)
  | lockKept _ hphase => exact hs.of_moving rfl rfl (.inr (by rw [hphase]; simp))
  | lockFreed _ hphase => exact hs.of_moving rfl rfl (.inr (by rw [hphase]; simp))
  | bitHandled _ hphase => exact hs.of_moving rfl rfl (.inr (by rw [hphase]; simp))
  | created => exact variantInv_reset.congr rfl rfl rfl rfl rfl
  | _ => exact hs.congr rfl rfl rfl rfl rfl

/-- Settles O57: only GINIT latches, and it latches the strap; a group edge pends only on a latched variant B. -/
theorem stepKeepsVariant : Obligations.StepKeepsVariant := fun _ _ hs hstep =>
  step_keeps (P := VariantInv)
    (fun _ _ h hs => hs.congr h.glueInit h.variantLatch h.ackLock h.ependG h.dmx)
    (fun _ _ _ => variantInv_write) hs hstep

end Sys2Proof
end

section
/-! PROOFS. O59, O8, O9: the reset state meets every invariant and has the values of R43; creation (R250). -/

namespace Sys2Proof

open Sys2Proof.Machine

theorem tableInv_reset : TableInv State.reset := by
  rw [tableInv_iff]
  refine ⟨fun i v hi => ?_, fun i j v w _ hi => ?_⟩ <;> rw [reset_slots] at hi <;> cases hi

theorem busyInv_reset : BusyInv State.reset where
  portCount := Port.atReset_length
  worksOnBusy r w i hw := by rw [reset_workOf] at hw; cases hw
  oneEach r r' w w' i hw := by rw [reset_workOf] at hw; cases hw
  busyHasWork i hi := absurd (reset_slots i) hi

theorem statusInv_reset : StatusInv State.reset := by
  intro p hp a ha
  rw [Port.mem_atReset.1 hp] at ha
  cases ha

theorem isGood_reset : isGood State.reset = true := by
  have hports : State.reset.ports.all (fun p => p.work.isNone) = true := by
    rw [List.all_eq_true]
    intro p hp
    rw [Port.mem_atReset.1 hp]
    rfl
  rw [isGood, isComplete, hports]
  rfl

/-- Settles O59: each invariant by its own lemma about `State.reset`. -/
theorem invariantsHoldAtReset : Obligations.InvariantsHoldAtReset :=
  ⟨Memory.wf_reset, tableInv_reset, grantInv_of_empty reset_mode reset_grant reset_slots,
    domainInv_of_unbuilt reset_dom reset_domParent, demuxInv_reset, variantInv_reset, busyInv_reset, statusInv_reset,
    isGood_reset⟩

/-! ## Reset and creation (R43, R250) -/

/-- Settles O8: the rows of R43 that state a value, each read off `State.reset`. -/
theorem resetValues : Obligations.ResetValues :=
  ⟨rfl, reset_slots, fun f => ⟨reset_dom f, reset_domParent f, reset_mode f, reset_grant f⟩, rfl,
    fun g => ⟨reset_ependG g, by rw [reset_dmx]; rfl, by rw [reset_dmx]; rfl⟩, rfl, reset_workOf, rfl, rfl, rfl, rfl,
    rfl, rfl, rfl⟩

/-- Settles O9: the environment's step is `State.create`, then the schedule. -/
theorem creationResets : Obligations.CreationResets := by
  intro s hturn
  refine ⟨_, step_of_stepTurn (u := s.create) (by rw [hturn]; rfl), rfl, fun r => ?_⟩
  rw [workOf, State.advance_ports, State.create_ports, List.getElem?_map]
  cases s.ports[r]? <;> rfl

end Sys2Proof
end

section
/-! PROOFS. O46, O60: what a step may write, by its cause. -/

namespace Sys2Proof

open Sys2Proof.Machine

/-! ## The fault record (R39, R226) -/

theorem cause_ne_creation {s : State} {c : Cause} (hc : CausedIn s c) (hturn : s.turn ≠ .env .create) :
    c ≠ .creation := by
  rintro rfl
  exact hturn hc

theorem faultKept_write {c : Cause} {s t : State} (h : Write c s t) (hc : c ≠ .creation) : FaultKept s t := by
  cases h with
  | created => exact absurd rfl hc
  | _ => exact .of_eq rfl rfl rfl

/-- Settles O46: the quiet changes keep a recorded fault, and but for creation no write touches it. -/
theorem faultRecordSticky : Obligations.FaultRecordSticky := by
  intro s t hstep hturn
  obtain ⟨c, hc, he⟩ := effect_step hstep
  have hkept : FaultKept s t := he.keeps (P := FaultKept s) (fun _ _ h hs => hs.trans h.fault)
    (fun _ _ h hs => hs.trans (faultKept_write h (cause_ne_creation hc hturn))) (.of_eq rfl rfl rfl)
  exact hkept

/-! ## Who writes what (R26, R29, R33–R35) -/

/-- The cause is an instruction with the property, or the creation of the block. -/
def Cause.InstrOrCreation (P : Instr → Prop) : Cause → Prop
  | .instr i => P i
  | .creation => True
  | .group _ | .other => False

/-- If a part of the state changed, its cause is one that may write that part. -/
theorem Effect.writer {α : Type} {c : Cause} {s t : State} {part : State → α} {Allowed : Prop} (h : Effect c s t)
    (hquiet : ∀ s t, Quiet s t → part t = part s) (hwrite : ∀ s t, Write c s t → Allowed ∨ part t = part s)
    (hne : part t ≠ part s) : Allowed := by
  by_contra hno
  exact hne (h.keeps (P := fun u => part u = part s) (fun _ _ h hs => (hquiet _ _ h).trans hs)
    (fun _ _ h hs => ((hwrite _ _ h).resolve_left hno).trans hs) rfl)

section
variable {c : Cause} {s t : State} (h : Write c s t)
include h

theorem write_glueInit : c.InstrOrCreation (fun i => i = .ginit ∨ i = .gdeinit) ∨ t.glueInit = s.glueInit := by
  cases h with
  | initialised => exact .inl (.inl rfl)
  | deinitialised => exact .inl (.inr rfl)
  | created => exact .inl trivial
  | _ => exact .inr rfl

theorem write_slots : c.InstrOrCreation WritesSlots ∨ t.slots = s.slots := by
  cases h with
  | allocated hi => exact .inl hi
  | freed _ _ hi => exact .inl hi
  | created => exact .inl trivial
  | _ => exact .inr rfl

theorem write_domains : c.InstrOrCreation WritesDomains ∨ (t.dom, t.domParent) = (s.dom, s.domParent) := by
  cases h with
  | primaryBuilt hi => exact .inl hi
  | secondaryBuilt hi => exact .inl hi
  | secondaryFailed hi => exact .inl hi
  | tornDown => exact .inl (.inr (.inr rfl))
  | created => exact .inl trivial
  | _ => exact .inr rfl

theorem write_grants : c.InstrOrCreation WritesGrants ∨ (t.mode, t.grant) = (s.mode, s.grant) := by
  cases h with
  | granted hi => exact .inl hi
  | tornDown => exact .inl (.inr (.inr rfl))
  | created => exact .inl trivial
  | _ => exact .inr rfl

theorem write_ackLock : c = .creation ∨ (∃ g, c = .group g) ∨ t.ackLock = s.ackLock := by
  cases h with
  | lockTaken => exact .inr (.inl ⟨_, rfl⟩)
  | lockFreed => exact .inr (.inl ⟨_, rfl⟩)
  | created => exact .inl rfl
  | _ => exact .inr (.inr rfl)

end

/-- A step caused by an instruction that is no event runs it from a port. -/
theorem runsFrom_of_cause {s : State} {c : Cause} {P : Instr → Prop} (hc : CausedIn s c) (hturn : s.turn ≠ .env .create)
    (hedge : ∀ h, ¬ P (.edge h)) (h : c.InstrOrCreation P) : ∃ r i, RunsFrom s r i ∧ P i := by
  match c, hc, h with
  | .instr i, .inl ⟨r, hr⟩, h => exact ⟨r, i, hr, h⟩
  | .instr _, .inr ⟨ev, rfl, _⟩, h => exact absurd h (hedge ev)
  | .creation, hc, _ => exact absurd hc hturn

/-- The lock changes in a demux agent's step only. -/
theorem turn_of_ackLock_ne {s t : State} (hstep : step s = .next t) (hturn : s.turn ≠ .env .create)
    (hne : t.ackLock ≠ s.ackLock) : ∃ g, s.turn = .dmx g := by
  obtain ⟨c, hc, he⟩ := effect_step hstep
  obtain ⟨g, rfl⟩ : ∃ g, c = .group g := he.writer (fun _ _ h => h.ackLock)
    (fun _ _ h => (write_ackLock h).resolve_left (cause_ne_creation hc hturn)) hne
  exact ⟨g, hc⟩

/-- Settles O60: each part of the state is written only by the writes that name its instructions. -/
theorem whoWritesWhat : Obligations.WhoWritesWhat := by
  intro s t hstep hturn
  obtain ⟨c, hc, he⟩ := effect_step hstep
  refine ⟨fun hne => ?_, fun hne => ?_, fun hne => ?_, fun hne => ?_, turn_of_ackLock_ne hstep hturn⟩
  · exact runsFrom_of_cause hc hturn (by simp)
      (he.writer (fun _ _ h => h.glueInit) (fun _ _ => write_glueInit) hne)
  · exact runsFrom_of_cause hc hturn (P := WritesSlots) (by simp [WritesSlots])
      (he.writer (fun _ _ h => h.slots) (fun _ _ => write_slots) hne)
  · refine runsFrom_of_cause hc hturn (P := WritesDomains) (by simp [WritesDomains])
      (he.writer (part := fun u => (u.dom, u.domParent)) (fun _ _ h => by rw [h.dom, h.domParent])
        (fun _ _ => write_domains) fun heq => ?_)
    obtain ⟨hdom, hparent⟩ := Prod.mk.inj heq
    exact hne.elim (· hdom) (· hparent)
  · refine runsFrom_of_cause hc hturn (P := WritesGrants) (by simp [WritesGrants])
      (he.writer (part := fun u => (u.mode, u.grant)) (fun _ _ h => by rw [h.mode, h.grant])
        (fun _ _ => write_grants) fun heq => ?_)
    obtain ⟨hmode, hgrant⟩ := Prod.mk.inj heq
    exact hne.elim (· hmode) (· hgrant)

end Sys2Proof
end

section
/-! PROOFS. O39: the lock protocol (R194–R196). -/

namespace Sys2Proof

open Sys2Proof.Machine

theorem step_of_dmx {s : State} {g : Group} (h : s.turn = .dmx g) :
    step s = .next ((stepDemux Config.env g s).advance Config.env) :=
  step_of_stepTurn (by rw [h]; rfl)

theorem stepDemux_idle {e : Env} {g : Group} {s : State} (h : (s.dmx.get g).phase = .idle) :
    stepDemux e g s = demuxT1 g s := by rw [stepDemux, h]

theorem stepDemux_t2 {e : Env} {g : Group} {s : State} (h : (s.dmx.get g).phase = .locked .t2) :
    stepDemux e g s = demuxT2 e g s := by rw [stepDemux, h]

theorem stepDemux_t3 {e : Env} {g : Group} {s : State} (h : (s.dmx.get g).phase = .locked .t3) :
    stepDemux e g s = demuxT3 e g s := by rw [stepDemux, h]

theorem stepDemux_t4 {e : Env} {g : Group} {s : State} {a : Word} (h : (s.dmx.get g).phase = .locked (.t4 a)) :
    stepDemux e g s = demuxT4 e g a s := by rw [stepDemux, h]

/-- A read of the ack-read register, which is volatile, is a draw (R64, R68). -/
theorem gbValue_ackRd (s : State) : s.gbValue Config.env (s.regs Config.env).ackRd = Config.ackValue s.tick := by
  obtain ⟨-, -, -, hvol, -⟩ := glueRegs_ok_cases (regs_ok s.variantLatch)
  exact if_pos (List.contains_iff_mem.2 hvol)

/-- The pending bits (R190): a bit under the mask whose acknowledge bit is 0, or is past the word's top. -/
theorem getLsbD_computePending (a m : Word) (sh : Nat) {i : Nat} (hi : i < 32) :
    (computePending a m sh).getLsbD i = true ↔
      m.getLsbD i = true ∧ (sh + i < 32 → a.getLsbD (sh + i) = false) := by
  have htop : a.getLsbD (sh + i) = false ↔ (sh + i < 32 → a.getLsbD (sh + i) = false) :=
    ⟨fun h _ => h, fun h => (Nat.lt_or_ge (sh + i) 32).elim h (BitVec.getLsbD_of_ge a _)⟩
  rw [← htop]
  simp [computePending, hi]

/-- What a demux agent's step does to the lock: nothing, or T1 takes it free, or T4 frees it. -/
theorem stepDemux_ackLock_cases (e : Env) (g : Group) (s : State) :
    (stepDemux e g s).ackLock = s.ackLock ∨ s.ackLock = .free ∨
    ((stepDemux e g s).ackLock = .free ∧ ∃ a, (s.dmx.get g).phase = .locked (.t4 a)) := by
  unfold stepDemux
  split
  · obtain ⟨-, hfree, -⟩ | ⟨-, hc⟩ := demuxT1_cases g s
    · exact .inr (.inl hfree)
    · exact .inl (by rw [hc])
  · exact .inl rfl
  · exact .inl rfl
  · next a hphase => exact .inr (.inr ⟨rfl, a, hphase⟩)
  · refine .inl ?_
    unfold demuxT5
    split
    · rfl
    · exact (quiet_demuxBit e g _ s).ackLock

/-- Only the holder's T4 lifts the hold. -/
theorem ackLock_released {s t : State} {g : Group} (hs : DemuxInv s) (hheld : s.ackLock = .held g)
    (hstep : step s = .next t) (hturn : s.turn ≠ .env .create) (hlift : t.ackLock ≠ .held g) :
    s.turn = .dmx g ∧ t.ackLock = .free ∧ ∃ a, (s.dmx.get g).phase = .locked (.t4 a) := by
  obtain ⟨g', hg'⟩ := turn_of_ackLock_ne hstep hturn (by rw [hheld]; exact hlift)
  obtain rfl := Host.Outcome.next.inj ((step_of_dmx hg').symm.trans hstep)
  obtain hsame | hfree | ⟨hfree, a, hphase⟩ := stepDemux_ackLock_cases Config.env g' s
  · exact absurd (hsame.trans hheld) hlift
  · rw [hheld] at hfree
    cases hfree
  · obtain rfl : g = g' := AckLock.held.inj (hheld.symm.trans ((hs.lockHolder g').2 ⟨_, hphase⟩))
    exact ⟨hg', hfree, a, hphase⟩

/-- Settles O39: one equation for each phase, and the step that lifts the hold. -/
theorem lockProtocol : Obligations.LockProtocol := by
  refine ⟨fun s g hturn => ⟨fun hphase hpend hfree => ?_, fun hphase hnot => ?_, fun hphase => ?_, fun hphase => ?_,
    fun a hphase => ?_⟩, fun s t g hs hheld hstep hturn hlift => ackLock_released hs hheld hstep hturn hlift⟩
  · rw [step_of_dmx hturn, stepDemux_idle hphase, demuxT1, if_pos ⟨hpend, hfree⟩]
  · have hno : ¬ (s.ependG.get g = true ∧ s.ackLock = .free) := fun ⟨hpend, hfree⟩ =>
      hnot.elim (fun h => Bool.false_ne_true (h.symm.trans hpend)) (· hfree)
    rw [step_of_dmx hturn, stepDemux_idle hphase, demuxT1, if_neg hno]
  · rw [step_of_dmx hturn, stepDemux_t2 hphase]
    rfl
  · rw [step_of_dmx hturn, stepDemux_t3 hphase, demuxT3, gbValue_ackRd]
    rfl
  · refine ⟨groupMask g, computePending a (groupMask g) (groupShift Config.params g), groupShift Config.params g, ?_,
      fun i hi => getLsbD_computePending a _ _ hi, ?_⟩
    · rw [groupShift_eq]
      cases g <;> rfl
    · rw [step_of_dmx hturn, stepDemux_t4 hphase]
      rfl

end Sys2Proof
end

section
/-! PROOFS. O6: what a step runs (R21, R24, R73, R80). -/

namespace Sys2Proof

open Sys2Proof.Machine

theorem take1_short (k : Word → Instr) {ops : List Word} (h : ops.length < 1) : take1 k ops = .short := by
  match ops, h with
  | [], _ => rfl

theorem take2_short (k : Word → Word → Instr) {ops : List Word} (h : ops.length < 2) : take2 k ops = .short := by
  match ops, h with
  | [], _ => rfl
  | [_], _ => rfl

theorem take3_short (k : Word → Word → Word → Instr) {ops : List Word} (h : ops.length < 3) :
    take3 k ops = .short := by
  match ops, h with
  | [], _ => rfl
  | [_], _ => rfl
  | [_, _], _ => rfl

/-- A legal header with fewer operand words than its opcode takes waits for them. -/
theorem decode_short {h : Word} {ops : List Word} {n : Nat} (hlegal : headerLegal h = true)
    (hn : operandCount (headerOpc h) = some n) (hlt : ops.length < n) : decode (h :: ops) = .short := by
  rw [decode, if_pos hlegal, decodeLegal]
  unfold operandCount at hn
  generalize (headerOpc h).toNat = opc at hn ⊢
  split at hn <;> cases hn
  all_goals simp (disch := assumption) only [take1_short, take2_short, take3_short, ite_self, Nat.not_lt_zero] at hlt ⊢

/-- A command's words are a legal header and as many operand words as its opcode takes. -/
theorem encode_eq_cons {i : Instr} (hi : ∀ h, i ≠ .edge h) :
    ∃ h ops, encode i = h :: ops ∧ headerLegal h = true ∧ operandCount (headerOpc h) = some ops.length := by
  cases i
  case edge ev => exact absurd rfl (hi ev)
  all_goals exact ⟨_, _, rfl, by simp [headerLegal, operandCount, usesFn, usesSf], by simp [operandCount]⟩

/-- The beginning of a command's words is no command yet (log 16). -/
theorem decode_of_cut {i : Instr} {ws more : List Word} (hi : ∀ h, i ≠ .edge h) (hws : ws ++ more = encode i)
    (hmore : more ≠ []) : decode ws = .short := by
  obtain ⟨h, ops, henc, hlegal, hcount⟩ := encode_eq_cons hi
  cases ws with
  | nil => rfl
  | cons w rest =>
    rw [henc, List.cons_append] at hws
    obtain ⟨rfl, hops⟩ := List.cons.inj hws
    refine decode_short hlegal hcount ?_
    rw [← hops, List.length_append]
    have := List.length_pos_iff.2 hmore
    omega

section
variable {s : State} {r : Nat} {p : Port} (hturn : s.turn = .req r) (hp : s.ports[r]? = some p)
include hturn hp

theorem step_of_command {i : Instr} {rest : List Word} {t : State} (hidle : p.work = none)
    (hdec : decode p.words = .command i rest) (ht : exec i (s.takeWords r rest) = .next t) :
    step s = .next (t.advance Config.env) :=
  step_of_stepTurn (by simp only [hturn, stepTurn, stepRequester, hp, hidle, hdec, ht])

theorem step_of_work {w : Work} (hw : p.work = some w) :
    step s = .next ((resumeWork Config.env w s).advance Config.env) :=
  step_of_stepTurn (by simp only [hturn, stepTurn, stepRequester, hp, hw])

theorem step_of_short (hidle : p.work = none) (hdec : decode p.words = .short) :
    step s = .next (s.advance Config.env) :=
  step_of_stepTurn (by simp only [hturn, stepTurn, stepRequester, hp, hidle, hdec])

end

/-- Settles O6: the agent's step by its own case, then the schedule. -/
theorem stepRunsDecoded : Obligations.StepRunsDecoded := by
  refine ⟨fun s r p hturn hp => ⟨fun i rest hidle hdec => ?_, fun w => step_of_work hturn hp,
    fun i more hidle hi hws hmore => step_of_short hturn hp hidle (decode_of_cut hi hws hmore)⟩,
    fun s r hturn hp => step_of_stepTurn (by simp only [hturn, stepTurn, stepRequester, hp]),
    fun s h hturn => ⟨_, rfl, step_of_stepTurn (by rw [hturn]; rfl)⟩, fun s r w hturn => ?_,
    fun s hturn => step_of_stepTurn (by rw [hturn]; rfl)⟩
  · obtain ⟨t, ht⟩ := exec_next i (s.takeWords r rest)
    exact ⟨t, ht, step_of_command hturn hp hidle hdec ht⟩
  · have hstep : step s = .next ((s.onPort r fun p => { p with words := p.words ++ [w] }).advance Config.env) :=
      step_of_stepTurn (by rw [hturn]; rfl)
    refine ⟨fun hp => ?_, fun p hp => ⟨_, hstep, rfl, by simp [hp], fun r' hr' => by simp [hr'.symm]⟩⟩
    have hnone : s.ports.modify r (fun p => { p with words := p.words ++ [w] }) = s.ports :=
      List.modify_eq_self (List.getElem?_eq_none_iff.1 hp)
    rw [hstep, State.onPort, hnone]

end Sys2Proof
end

section
/-! PROOFS. O27, O48: MASK and UNMASK run alone, and the frame of the line commands' first steps. -/

namespace Sys2Proof

open Sys2Proof.Machine

/-! ## MASK and UNMASK run alone (R140, R141) -/

/-- The state after both steps of a line command: line `k` marked busy, a register read, the command held, then `v`
written to the register `m`, the line set and OK answered. -/
def afterBothSteps (e : Env) (s : State) (k : SlotIx) (m v : Word) (w : Work) (ls : LineState) : State :=
  (((((s.setBusy k).gbRead e m).hold w).gbWrite e m v).setLine k ls false).respond .ok []

theorem afterBothSteps_result {s : State} {r : Nat} {p : Port} (hturn : s.turn = .req r) (hp : s.ports[r]? = some p)
    (hidle : p.work = none) (k : SlotIx) (m v : Word) (w : Work) (ls : LineState) {t : State}
    (ht : t = afterBothSteps Config.env s k m v w ls) :
    memWord Config.params.glue0 t.mem m = v ∧ SameBytesBut m s t ∧
    t.lines = s.lines.set k { s.lines[k] with st := ls, busy := false } ∧
    t.ports[r]? = some { p with responses := p.responses ++ [{ status := .ok, results := [] }] } := by
  subst ht
  refine ⟨memWord_memPutWord_same .., fun a ha => ?_, ?_, ?_⟩
  · refine (memByte_memPutWord ..).trans ?_
    repeat rw [if_neg (by omega)]
    rfl
  · simp [afterBothSteps]
  · have hheld := hold_issuer_port (s := (s.setBusy k).gbRead Config.env m) w hturn hp
    refine (respond_issuer_port (s := ((((s.setBusy k).gbRead Config.env m).hold w).gbWrite Config.env m v).setLine k ls
      false) .ok [] hturn hheld).trans ?_
    simp [hidle]

/-- The state of the line between the two steps of a line command. -/
theorem setBusy_st (s : State) (k : SlotIx) : (s.setBusy k).lines[k].st = s.lines[k].st := by simp

theorem afterMask_eq (st : LineState) : st.afterMask = if st = .unconfigured then .unconfigured else .masked := by
  cases st <;> rfl

section
variable {s : State} {virq : Word} {k : SlotIx} (hinit : s.glueInit = true) (hk : HoldsLine s virq k)
  (hfree : s.lines[k].busy = false)
include hinit hk hfree

/-- MASK's first step on the one idle line of the virq. -/
theorem maskLine_of_holds (e : Env) : maskLine e virq s =
    ((s.setBusy k).gbRead e ((s.regs e).maskReg s.lines[k].f)).hold
      (.maskS2 k s.lines[k].f s.lines[k].mbits (s.gbValue e ((s.regs e).maskReg s.lines[k].f))) :=
  withLine_of_unique _ hinit hk.1 hk.2 hfree

/-- UNMASK's first step on the one idle line of the virq, a configured one. -/
theorem unmaskLine_of_holds (e : Env) (hst : s.lines[k].st ≠ .unconfigured) : unmaskLine e virq s =
    ((s.setBusy k).gbRead e ((s.regs e).maskReg s.lines[k].f)).hold
      (.unmaskS2 k s.lines[k].f s.lines[k].mbits (s.gbValue e ((s.regs e).maskReg s.lines[k].f))) :=
  (withLine_of_unique _ hinit hk.1 hk.2 hfree).trans (if_neg hst)

end

/-- Settles O27: both commands are one read of the mask register and one write of it with the line's bits changed. -/
theorem maskUnmaskAlone : Obligations.MaskUnmaskAlone := by
  rintro s r p virq k m rfl hturn hp hidle hinit hk hfree
  refine ⟨⟨_, _, congrArg Host.Outcome.next (maskLine_of_holds hinit hk hfree Config.env), rfl, ?_⟩,
    fun hst => ⟨_, _, congrArg Host.Outcome.next (unmaskLine_of_holds hinit hk hfree Config.env hst), rfl, ?_⟩⟩ <;>
    rw [alone_hold (s := (s.setBusy k).gbRead _ _) _ 0 _ hturn hp, alone_zero]
  · rw [← afterMask_eq, ← setBusy_st]
    exact afterBothSteps_result hturn hp hidle k _ _ _ _ rfl
  · exact afterBothSteps_result hturn hp hidle k _ _ _ _ rfl

/-! ## The frame of the line commands -/

/-- The frame of the first steps of WRMSG, MASK and UNMASK: no store, and at most the busy bit of the line of `v`. -/
def BusyFrame (v : Word) (s t : State) : Prop :=
  t = { s with ports := t.ports, lines := t.lines, gbLog := t.gbLog, fltCode := t.fltCode, fltInfo := t.fltInfo,
               fltCount := t.fltCount } ∧
  ∀ j : SlotIx, t.lines[j] = { s.lines[j] with busy := t.lines[j].busy } ∧
    (s.slots[j] ≠ some v → t.lines[j] = s.lines[j])

/-- The frame of ALLOC, ALLOCB and FREE: no access, and at most the slot found and its record. -/
def SlotFrame (found : Option SlotIx) (s t : State) : Prop :=
  t = { s with ports := t.ports, slots := t.slots, lines := t.lines, fltCode := t.fltCode, fltInfo := t.fltInfo,
               fltCount := t.fltCount } ∧
  ∀ j : SlotIx, found ≠ some j → t.slots[j] = s.slots[j] ∧ t.lines[j] = s.lines[j]

theorem busyFrame_raise (v : Word) (s : State) (f : Status) (info : Word) : BusyFrame v s (s.raise f info) :=
  ⟨rfl, fun _ => ⟨rfl, fun _ => rfl⟩⟩

theorem slotFrame_raise (found : Option SlotIx) (s : State) (f : Status) (info : Word) :
    SlotFrame found s (s.raise f info) :=
  ⟨rfl, fun _ _ => ⟨rfl, rfl⟩⟩

/-- The line is marked busy, a register read and the command held. -/
theorem busyFrame_hold {v : Word} {s : State} {i : SlotIx} (hi : s.findLine v = some i) (e : Env) (off : Word)
    (w : Work) : BusyFrame v s (((s.setBusy i).gbRead e off).hold w) := by
  refine ⟨rfl, fun j => ?_⟩
  rw [State.hold_lines, State.gbRead_lines, State.setBusy_lines, getElem_set_fin]
  split
  · next h =>
    subst h
    exact ⟨rfl, fun hne => absurd ((findLine_eq_some_iff s v j).1 hi).1 hne⟩
  · exact ⟨rfl, fun _ => rfl⟩

/-- One slot and its record are written and a response given. -/
theorem slotFrame_respond (s : State) (i : SlotIx) (v : Option Word) (l : Line) (st : Status) (rs : List Word) :
    SlotFrame (some i) s
      (State.respond { s with slots := s.slots.set i v, lines := s.lines.set i l } st rs) := by
  refine ⟨rfl, fun j hj => ?_⟩
  have hne : j ≠ i := fun h => hj (h ▸ rfl)
  simp only [State.respond_slots, State.respond_lines, getElem_set_fin, if_neg hne, and_self]

theorem busyFrame_writeMsg (e : Env) (v a d : Word) (s : State) : BusyFrame v s (writeMsg e v a d s) := by
  refine withLine_holds _ v (fun _ _ => busyFrame_raise v s _ _) fun i hi => ?_
  split
  · exact ⟨rfl, fun _ => ⟨rfl, fun _ => rfl⟩⟩
  · exact busyFrame_hold hi e _ _

theorem busyFrame_maskLine (e : Env) (v : Word) (s : State) : BusyFrame v s (maskLine e v s) :=
  withLine_holds _ v (fun _ _ => busyFrame_raise v s _ _) fun _ hi => busyFrame_hold hi e _ _

theorem busyFrame_unmaskLine (e : Env) (v : Word) (s : State) : BusyFrame v s (unmaskLine e v s) := by
  refine withLine_holds _ v (fun _ _ => busyFrame_raise v s _ _) fun i hi => ?_
  split
  · exact busyFrame_raise v s _ _
  · exact busyFrame_hold hi e _ _

theorem slotFrame_allocate (e : Env) (fn sf : BitVec 8) (v : Word) (s : State) :
    SlotFrame s.firstEmpty s (allocate e fn sf v s) := by
  obtain ⟨_, _, -, hc⟩ | ⟨_, -, hc⟩ | ⟨f, sub, i, -, -, -, -, -, -, -, -, hi, hc⟩ := allocate_cases e fn sf v s <;>
    rw [hc]
  · exact slotFrame_raise _ s _ _
  · exact ⟨rfl, fun _ _ => ⟨rfl, rfl⟩⟩
  · rw [hi]
    exact slotFrame_respond s i _ _ _ _

theorem slotFrame_releaseLine (e : Env) (v : Word) (s : State) : SlotFrame (s.findLine v) s (releaseLine e v s) := by
  refine withLine_holds _ v (fun _ _ => slotFrame_raise _ s _ _) fun i hi => ?_
  split
  · exact slotFrame_raise _ s _ _
  · rw [hi]
    exact slotFrame_respond s i _ _ _ _

theorem composeMsg_frame (e : Env) (v : Word) (s t : State) (ht : composeMsg e v s = t) :
    t = { s with ports := t.ports, diagFallback := t.diagFallback, fltCode := t.fltCode, fltInfo := t.fltInfo,
                 fltCount := t.fltCount } := by
  obtain ⟨-, hc⟩ | ⟨_, _, -, hc⟩ | ⟨_, -, -, -, hc⟩ := composeMsg_cases e v s <;> rw [← ht, hc] <;> rfl

/-- Settles O48: each command's frame, with the slot it names. -/
theorem lineCommandsFrame : Obligations.LineCommandsFrame := by
  intro s t v a d fn sf
  refine ⟨fun h => composeMsg_frame _ v s t (Host.Outcome.next.inj h), fun h => ?_, fun h => ?_, fun h => ?_⟩
  · obtain h | h | h := h <;> obtain rfl := Host.Outcome.next.inj h
    · exact busyFrame_writeMsg _ v a d s
    · exact busyFrame_maskLine _ v s
    · exact busyFrame_unmaskLine _ v s
  · obtain h | h := h <;> obtain rfl := Host.Outcome.next.inj h
    · exact slotFrame_allocate _ fn sf v s
    · exact slotFrame_allocate _ fn 0x1F v s
  · obtain rfl := Host.Outcome.next.inj h
    exact slotFrame_releaseLine _ v s

end Sys2Proof
end

section
/-! PROOFS. O13, O14, O20: the glue window's registers and bytes (R64–R66), and a read-modify-write command run alone
(R67, R103–R105). -/

namespace Sys2Proof

open Sys2Proof.Machine

/-! ## Registers and bytes (R64, R66) -/

/-- What `MemRead(off, 4)` returns on the machine's own environment (R64). -/
theorem gbValue_eq (s : State) (off : Word) : s.gbValue Config.env off =
    if off ∈ (Config.params.regs s.variantLatch).volatileRegs then Config.ackValue s.tick
    else memWord Config.params.glue0 s.mem off := by
  simp only [State.gbValue, List.contains_iff_mem]
  rfl

/-- Settles O13: a register's value is a draw or the window's word, and a write of one aligned register changes no other
word. -/
theorem registerReadsLastWrite : Obligations.RegisterReadsLastWrite := by
  refine ⟨fun s off v => ⟨?_, fun x hoff hx hne => ?_⟩, fun _ => rfl, fun v => ?_⟩
  · rw [gbValue_eq]
    exact congrArg _ (memWord_memPutWord_same ..)
  · rw [gbValue_eq, gbValue_eq]
    exact congrArg _ (memWord_memPutWord_other _ _ v hoff hx hne)
  · obtain ⟨-, -, -, hack, -⟩ := glueRegs_ok_cases (regs_ok v)
    exact hack

/-- The bytes of a register are the window's bytes, the lowest first (R66). -/
theorem extractLsb'_memWord (d : Nat → Byte) (m : List Host.Cell) (off : Word) {k : Nat} (hk : k < 4) :
    (memWord d m off).extractLsb' (8 * k) 8 = memByte d m (off.toNat + k) := by
  rw [memWord]
  interval_cases k
  · exact BitVec.extractLsb'_append_eq_right
  · rw [BitVec.extractLsb'_append_eq_of_le (by decide)]
    exact BitVec.extractLsb'_append_eq_right
  · rw [BitVec.extractLsb'_append_eq_of_le (by decide), BitVec.extractLsb'_append_eq_of_le (by decide)]
    exact BitVec.extractLsb'_append_eq_right
  · rw [BitVec.extractLsb'_append_eq_of_le (by decide), BitVec.extractLsb'_append_eq_of_le (by decide)]
    exact BitVec.extractLsb'_append_eq_left

/-- A 32-bit write changes no byte outside its register. -/
theorem memByte_memPutWord_outside (d : Nat → Byte) (m : List Host.Cell) {off : Word} (v : Word) {a : Nat}
    (ha : a < off.toNat ∨ off.toNat + 4 ≤ a) : memByte d (memPutWord d m off v) a = memByte d m a := by
  rw [memByte_memPutWord]
  repeat rw [if_neg (by omega)]

/-- Settles O14: the bytes of a register after a write are those of the value it then reads as. -/
theorem glueIsLittleEndian : Obligations.GlueIsLittleEndian := by
  refine fun s off v => ⟨fun k hk => ?_, fun a ha => memByte_memPutWord_outside _ _ v ha,
    fun k hk => extractLsb'_memWord _ _ _ hk⟩
  rw [← extractLsb'_memWord _ _ _ hk]
  exact congrArg (·.extractLsb' (8 * k) 8) (memWord_memPutWord_same ..)

/-! ## A command in progress on the port whose turn it is (R38) -/

/-- It is port `r`'s turn, and the port is `p` but that the command `w` is in progress. -/
def InProgress (s : State) (r : Nat) (p : Port) (w : Work) : Prop :=
  s.turn = .req r ∧ s.ports[r]? = some { p with work := some w }

theorem inProgress_hold {s : State} {r : Nat} {p : Port} (hturn : s.turn = .req r) (hp : s.ports[r]? = some p)
    (w : Work) : InProgress (s.hold w) r p w :=
  ⟨hturn, hold_issuer_port w hturn hp⟩

section
variable {s : State} {r : Nat} {p : Port} {w : Work} (h : InProgress s r p w)
include h

theorem InProgress.hold {u : State} (hturn : u.turn = s.turn) (hports : u.ports = s.ports) (w' : Work) :
    InProgress (u.hold w') r p w' := by
  obtain ⟨ht, hp⟩ := h
  exact inProgress_hold (p := { p with work := some w }) (hturn.trans ht) (hports ▸ hp) w'

theorem InProgress.alone_succ (e : Env) (n : Nat) : alone e r (n + 1) s = alone e r n (resumeWork e w s) := by
  obtain ⟨-, hp⟩ := h
  rw [alone, workOf, hp]
  rfl

theorem InProgress.respond {u : State} (hturn : u.turn = s.turn) (hports : u.ports = s.ports) (hidle : p.work = none)
    (st : Status) (rs : List Word) : (u.respond st rs).ports[r]? =
      some { p with responses := p.responses ++ [{ status := st, results := rs }] } := by
  obtain ⟨ht, hp⟩ := h
  rw [respond_issuer_port (p := { p with work := some w }) st rs (hturn.trans ht) (hports ▸ hp), hidle]

end

/-! ## SETM, CLRM and MASKSET run alone (R103–R105) -/

/-- `CHECK_RAL` passes on an initialised block and an admitted offset (R100). -/
theorem checkRal_of_admitted {s : State} {off : Word} (hinit : s.glueInit = true) (hoff : Admitted s off)
    (opc : BitVec 8) (k : State) : checkRal Config.env opc off s k = k := by
  have hadmits := (admits_iff s off).2 hoff
  obtain ⟨hno, -⟩ | ⟨-, hno, -⟩ | ⟨-, -, hc⟩ := checkRal_cases Config.env opc off s k
  · exact absurd (hno.symm.trans hinit) Bool.false_ne_true
  · exact absurd (hno.symm.trans hadmits) Bool.false_ne_true
  · exact hc

section
variable {s : State} {r : Nat} {p : Port} (hturn : s.turn = .req r) (hp : s.ports[r]? = some p) (hidle : p.work = none)
include hturn hp hidle

/-- A command that reads the register `off`, is held as `w`, and at its next step writes `v` there and answers OK, run
alone. -/
theorem alone_readModifyWrite {off v : Word} {w : Work}
    (hw : ∀ u : State, resumeWork Config.env w u = (u.gbWrite Config.env off v).respond .ok []) {t : State}
    (ht : t = alone Config.env r 1 ((s.gbRead Config.env off).hold w)) :
    memWord Config.params.glue0 t.mem off = v ∧ SameBytesBut off s t ∧
    t.ports[r]? = some { p with responses := p.responses ++ [{ status := .ok, results := [] }] } := by
  have hheld := inProgress_hold (s := s.gbRead Config.env off) hturn hp w
  rw [hheld.alone_succ, alone_zero, hw] at ht
  subst ht
  exact ⟨memWord_memPutWord_same .., fun a ha => memByte_memPutWord_outside _ _ v ha, hheld.respond rfl rfl hidle .ok []⟩

end

/-- MASKSET's value bit by bit: the clear is applied first (R105). -/
theorem getLsbD_clear_set (t clr set : Word) {i : Nat} (hi : i < 32) : ((t &&& ~~~clr) ||| set).getLsbD i =
    if set.getLsbD i then true else if clr.getLsbD i then false else t.getLsbD i := by
  rw [BitVec.getLsbD_or, BitVec.getLsbD_and, BitVec.getLsbD_not]
  cases set.getLsbD i <;> cases clr.getLsbD i <;> simp [hi]

/-- Settles O20: each command is one read and one write of its register, run with no other agent between them. -/
theorem readModifyWriteAlone : Obligations.ReadModifyWriteAlone := by
  intro s r p off m1 m2 hturn hp hidle hinit hoff
  refine ⟨⟨_, congrArg Host.Outcome.next (checkRal_of_admitted hinit hoff _ _), ?_⟩,
    ⟨_, congrArg Host.Outcome.next (checkRal_of_admitted hinit hoff _ _), ?_⟩,
    ⟨_, congrArg Host.Outcome.next (checkRal_of_admitted hinit hoff _ _), ?_⟩⟩
  · exact alone_readModifyWrite hturn hp hidle (fun _ => rfl) rfl
  · exact alone_readModifyWrite hturn hp hidle (fun _ => rfl) rfl
  · obtain ⟨hword, hrest⟩ := alone_readModifyWrite hturn hp hidle
      (w := .masksetS2 off m1 m2 (s.gbValue Config.env off)) (fun _ => rfl) rfl
    refine ⟨fun i hi => ?_, hrest⟩
    rw [hword]
    exact getLsbD_clear_set _ _ _ hi

end Sys2Proof
end

section
/-! PROOFS. O24: WRMSG run alone (R75, R135–R137). -/

namespace Sys2Proof

open Sys2Proof.Machine

/-! ## The window WRMSG leaves -/

/-- The window after WRMSG's five writes: the enable register as `t0`, the message, the enable register as `t1`. -/
def wrmsgWindow (d : Nat → Byte) (m : List Host.Cell) (g : GlueRegs) (f : FnId) (l : SubId) (addr data t0 t1 : Word) :
    List Host.Cell :=
  memPutWord d
    (memPutWord d
      (memPutWord d (memPutWord d (memPutWord d m g.glueEn t0) (g.addrReg f) addr) (g.dataHiReg f) (g.dataHiVal data))
      (g.dataLoReg f l) (g.dataLoVal data))
    g.glueEn t1

theorem singles_aligned {g : GlueRegs} {count : FnId → Nat} (h : g.ok count = true) {i : Nat} {o : Word}
    (ho : g.singles[i]? = some o) : o.extractLsb' 0 2 = 0 := by
  obtain ⟨-, -, -, -, -, hadmits, -⟩ := glueRegs_ok_cases h
  exact admits_aligned (hadmits o (List.mem_of_getElem? ho))

theorem dataLoReg_aligned {g : GlueRegs} {count : FnId → Nat} (h : g.ok count = true) (f : FnId) (l : SubId) :
    (g.dataLoReg f l).extractLsb' 0 2 = 0 := by
  obtain ⟨-, -, -, -, -, -, -, hlow, -⟩ := glueRegs_ok_cases h
  exact admits_aligned (hlow f l).1

theorem dataLoReg_ne_single {g : GlueRegs} {count : FnId → Nat} (h : g.ok count = true) (f : FnId) (l : SubId)
    {i : Nat} {o : Word} (ho : g.singles[i]? = some o) : g.dataLoReg f l ≠ o := by
  obtain ⟨-, -, -, -, hlow⟩ := wrmsg_registers_apart h f l
  exact hlow o (List.mem_of_getElem? ho)

section
variable {g : GlueRegs} {count : FnId → Nat} (hok : g.ok count = true) (d : Nat → Byte) (m : List Host.Cell) (f : FnId)
  (l : SubId) (addr data t0 t1 : Word)
include hok

theorem wrmsgWindow_addr :
    memWord d (wrmsgWindow d m g f l addr data t0 t1) (g.addrReg f) = addr := by
  obtain ⟨hea, -, hah, -⟩ := wrmsg_registers_apart hok f l
  have hen := singles_aligned hok (singles_glueEn g)
  have haddr := singles_aligned hok (singles_addrReg g f)
  have hhi := singles_aligned hok (singles_dataHiReg g f)
  have hlo := dataLoReg_aligned hok f l
  rw [wrmsgWindow, memWord_memPutWord_other _ _ _ hen haddr hea.symm,
    memWord_memPutWord_other _ _ _ hlo haddr (dataLoReg_ne_single hok f l (singles_addrReg g f)).symm,
    memWord_memPutWord_other _ _ _ hhi haddr hah, memWord_memPutWord_same]

theorem wrmsgWindow_dataHi :
    memWord d (wrmsgWindow d m g f l addr data t0 t1) (g.dataHiReg f) = g.dataHiVal data := by
  obtain ⟨-, heh, -⟩ := wrmsg_registers_apart hok f l
  have hen := singles_aligned hok (singles_glueEn g)
  have hhi := singles_aligned hok (singles_dataHiReg g f)
  have hlo := dataLoReg_aligned hok f l
  rw [wrmsgWindow, memWord_memPutWord_other _ _ _ hen hhi heh.symm,
    memWord_memPutWord_other _ _ _ hlo hhi (dataLoReg_ne_single hok f l (singles_dataHiReg g f)).symm,
    memWord_memPutWord_same]

theorem wrmsgWindow_dataLo :
    memWord d (wrmsgWindow d m g f l addr data t0 t1) (g.dataLoReg f l) = g.dataLoVal data := by
  rw [wrmsgWindow, memWord_memPutWord_other _ _ _ (singles_aligned hok (singles_glueEn g)) (dataLoReg_aligned hok f l)
    (dataLoReg_ne_single hok f l (singles_glueEn g)), memWord_memPutWord_same]

theorem wrmsgWindow_maskReg (f' : FnId) :
    memWord d (wrmsgWindow d m g f l addr data t0 t1) (g.maskReg f') = memWord d m (g.maskReg f') := by
  obtain ⟨-, -, -, hmask, -⟩ := wrmsg_registers_apart hok f l
  obtain ⟨hme, hma, hmh⟩ := hmask f'
  have hmsk := singles_aligned hok (singles_maskReg g f')
  have hen := singles_aligned hok (singles_glueEn g)
  rw [wrmsgWindow, memWord_memPutWord_other _ _ _ hen hmsk hme,
    memWord_memPutWord_other _ _ _ (dataLoReg_aligned hok f l) hmsk
      (dataLoReg_ne_single hok f l (singles_maskReg g f')).symm,
    memWord_memPutWord_other _ _ _ (singles_aligned hok (singles_dataHiReg g f)) hmsk hmh,
    memWord_memPutWord_other _ _ _ (singles_aligned hok (singles_addrReg g f)) hmsk hma,
    memWord_memPutWord_other _ _ _ hen hmsk hme]

end

/-- The bytes outside the four registers are as before. -/
theorem wrmsgWindow_outside (d : Nat → Byte) (m : List Host.Cell) (g : GlueRegs) (f : FnId) (l : SubId)
    (addr data t0 t1 : Word) {a : Nat}
    (ha : ∀ o ∈ [g.glueEn, g.addrReg f, g.dataHiReg f, g.dataLoReg f l], a < o.toNat ∨ o.toNat + 4 ≤ a) :
    memByte d (wrmsgWindow d m g f l addr data t0 t1) a = memByte d m a := by
  simp only [List.mem_cons, List.not_mem_nil, or_false, forall_eq_or_imp, forall_eq] at ha
  obtain ⟨hen, haddr, hhi, hlo⟩ := ha
  rw [wrmsgWindow, memByte_memPutWord_outside _ _ _ hen, memByte_memPutWord_outside _ _ _ hlo,
    memByte_memPutWord_outside _ _ _ hhi, memByte_memPutWord_outside _ _ _ haddr, memByte_memPutWord_outside _ _ _ hen]

/-! ## WRMSG's steps with no other agent between them -/

theorem afterWrite_eq (st : LineState) : st.afterWrite = if st = .unconfigured then .masked else st := by
  cases st <;> rfl

/-- WRMSG's first step with a non-zero address on the one idle line of the virq. -/
theorem writeMsg_of_holds {s : State} {virq addr : Word} {k : SlotIx} (hinit : s.glueInit = true)
    (hk : HoldsLine s virq k) (hfree : s.lines[k].busy = false) (haddr : addr ≠ 0) (e : Env) (data : Word) :
    writeMsg e virq addr data s = ((s.setBusy k).gbRead e (s.regs e).glueEn).hold
      (.wrmsgS2 k s.lines[k].f s.lines[k].s addr data (s.gbValue e (s.regs e).glueEn)) :=
  (withLine_of_unique _ hinit hk.1 hk.2 hfree).trans (if_neg haddr)

section
variable {s : State} {r : Nat} {p : Port} {w : Work} (h : InProgress s r p w)
include h
variable (e : Env) (k : SlotIx) (f : FnId) (l : SubId) (addr data t : Word)

theorem InProgress.writeMsgS2 :
    InProgress (writeMsgS2 e k f l addr data t s) r p (.wrmsgS3 k f l addr data) := h.hold rfl rfl _

theorem InProgress.writeMsgS3 : InProgress (writeMsgS3 e k f l addr data s) r p (.wrmsgS4 k f l data) :=
  h.hold rfl rfl _

theorem InProgress.writeMsgS4 : InProgress (writeMsgS4 e k f l data s) r p (.wrmsgS5 k f l data) := h.hold rfl rfl _

theorem InProgress.writeMsgS5 : InProgress (writeMsgS5 e k f l data s) r p (.wrmsgS6 k) := h.hold rfl rfl _

theorem InProgress.writeMsgS6 :
    InProgress (writeMsgS6 e k s) r p (.wrmsgS7 k (s.gbValue e (s.regs e).glueEn)) := h.hold rfl rfl _

theorem InProgress.writeMsgS7 (hidle : p.work = none) : (writeMsgS7 e k t s).ports[r]? =
    some { p with responses := p.responses ++ [{ status := .ok, results := [] }] } :=
  h.respond rfl rfl hidle .ok []

end

theorem writeMsgS7_lines (e : Env) (k : SlotIx) (t : Word) (s : State) : (writeMsgS7 e k t s).lines = s.lines.set k
    { s.lines[k] with st := if s.lines[k].st = .unconfigured then .masked else s.lines[k].st, busy := false } := by
  rw [← afterWrite_eq]
  rfl

/-- WRMSG's steps S2 to S6. -/
def wrmsgMiddle (e : Env) (k : SlotIx) (f : FnId) (l : SubId) (addr data t : Word) (s : State) : State :=
  writeMsgS6 e k <| writeMsgS5 e k f l data <| writeMsgS4 e k f l data <| writeMsgS3 e k f l addr data <|
    writeMsgS2 e k f l addr data t s

/-- WRMSG from S2 on, with no other agent's step between: the middle steps end before S7, and S7 follows. -/
theorem alone_wrmsg {s : State} {r : Nat} {p : Port} {k : SlotIx} {f : FnId} {l : SubId} {addr data t : Word}
    (h2 : InProgress s r p (.wrmsgS2 k f l addr data t)) (e : Env) :
    ∃ t', InProgress (wrmsgMiddle e k f l addr data t s) r p (.wrmsgS7 k t') ∧
      alone e r 6 s = writeMsgS7 e k t' (wrmsgMiddle e k f l addr data t s) := by
  have h3 := h2.writeMsgS2 e k f l addr data t
  have h4 := h3.writeMsgS3 e k f l addr data
  have h5 := h4.writeMsgS4 e k f l data
  have h6 := h5.writeMsgS5 e k f l data
  have h7 := h6.writeMsgS6 e k
  refine ⟨_, h7, ?_⟩
  calc alone e r 6 s
    _ = alone e r 5 _ := h2.alone_succ e 5
    _ = alone e r 4 _ := h3.alone_succ e 4
    _ = alone e r 3 _ := h4.alone_succ e 3
    _ = alone e r 2 _ := h5.alone_succ e 2
    _ = alone e r 1 _ := h6.alone_succ e 1
    _ = alone e r 0 _ := h7.alone_succ e 0

theorem wrmsgMiddle_lines (e : Env) (k : SlotIx) (f : FnId) (l : SubId) (addr data t : Word) (s : State) :
    (wrmsgMiddle e k f l addr data t s).lines = s.lines := by
  simp only [wrmsgMiddle, writeMsgS2, writeMsgS3, writeMsgS4, writeMsgS5, writeMsgS6, State.gbWrite_lines,
    State.hold_lines, State.gbRead_lines]

/-- WRMSG's writes, S7's included. -/
theorem writeMsgS7_mem (e : Env) (k : SlotIx) (f : FnId) (l : SubId) (addr data t t' : Word) (s : State) :
    (writeMsgS7 e k t' (wrmsgMiddle e k f l addr data t s)).mem =
      wrmsgWindow e.par.glue0 s.mem (s.regs e) f l addr data (t &&& ~~~(s.regs e).glueEnMask)
        (t' ||| (s.regs e).glueEnMask) := by
  simp only [writeMsgS7, wrmsgMiddle, writeMsgS2, writeMsgS3, writeMsgS4, writeMsgS5, writeMsgS6, State.respond_mem,
    State.setLine_mem, State.gbWrite_mem, State.hold_mem, State.gbRead_mem, State.regs, State.gbWrite_variantLatch,
    State.hold_variantLatch, State.gbRead_variantLatch, wrmsgWindow]

/-- What WRMSG leaves, run alone from S2 on: the window of its five writes, its line, and one answer. -/
theorem alone_wrmsg_result {s t : State} {r : Nat} {p : Port} {k : SlotIx} {f : FnId} {l : SubId} {addr data v : Word}
    (h2 : InProgress s r p (.wrmsgS2 k f l addr data v)) (hidle : p.work = none) {e : Env}
    (ht : t = alone e r 6 s) :
    (∃ t0 t1, t.mem = wrmsgWindow e.par.glue0 s.mem (s.regs e) f l addr data t0 (t1 ||| (s.regs e).glueEnMask)) ∧
      t.lines = s.lines.set k
        { s.lines[k] with st := if s.lines[k].st = .unconfigured then .masked else s.lines[k].st, busy := false } ∧
      t.ports[r]? = some { p with responses := p.responses ++ [{ status := .ok, results := [] }] } := by
  obtain ⟨t', h7, hrun⟩ := alone_wrmsg h2 e
  rw [hrun] at ht
  subst ht
  refine ⟨⟨_, t', writeMsgS7_mem ..⟩, ?_, h7.writeMsgS7 e k t' hidle⟩
  rw [writeMsgS7_lines, wrmsgMiddle_lines]

theorem or_and_mask (x m : Word) : (x ||| m) &&& m = m := by
  ext i hi
  simp +contextual

/-- Settles O24: WRMSG's seven steps are the writes of `wrmsgWindow`, whose registers are apart in every configuration. -/
theorem wrmsgAlone : Obligations.WrmsgAlone := by
  rintro s r p virq addr data k g rfl hturn hp hidle hinit hk hfree haddr
  have hok := regs_ok s.variantLatch
  have h2 := inProgress_hold (s := (s.setBusy k).gbRead Config.env (s.regs Config.env).glueEn) hturn hp
    (.wrmsgS2 k s.lines[k].f s.lines[k].s addr data (s.gbValue Config.env (s.regs Config.env).glueEn))
  refine ⟨_, _, congrArg Host.Outcome.next (writeMsg_of_holds hinit hk hfree haddr Config.env data), rfl, ?_⟩
  obtain ⟨⟨t0, t1, hmem⟩, hlines, hport⟩ := alone_wrmsg_result h2 hidle rfl
  rw [hmem, hlines]
  refine ⟨hport, wrmsgWindow_addr hok .., wrmsgWindow_dataHi hok .., wrmsgWindow_dataLo hok .., ?_, ?_,
    fun f => wrmsgWindow_maskReg hok .., fun a ha => wrmsgWindow_outside _ _ _ _ _ _ _ _ _ ha⟩
  · refine (congrArg (· &&& _) (memWord_memPutWord_same ..)).trans ?_
    exact or_and_mask _ _
  · simp

end Sys2Proof
end

section
/-! PROOFS. O52: every step keeps the window canonical, since it stores at most one register (R24, R64). -/

namespace Sys2Proof

open Sys2Proof.Machine

/-- The window is as before, or one register has been written. -/
def StoresAtMostOnce (s t : State) : Prop :=
  t.mem = s.mem ∨ ∃ off v, t.mem = (s.gbWrite Config.env off v).mem

theorem storesAtMostOnce_checkRal {s k : State} (e : Env) (opc : BitVec 8) (off : Word) (hk : StoresAtMostOnce s k) :
    StoresAtMostOnce s (checkRal e opc off s k) := by
  obtain ⟨-, hc⟩ | ⟨-, -, hc⟩ | ⟨-, -, hc⟩ := checkRal_cases e opc off s k <;> rw [hc]
  · exact .inl rfl
  · exact .inl rfl
  · exact hk

/-! ## What stores nothing -/

theorem BusyFrame.mem {v : Word} {s t : State} (h : BusyFrame v s t) : t.mem = s.mem := by
  obtain ⟨hframe, -⟩ := h
  rw [hframe]

theorem SlotFrame.mem {found : Option SlotIx} {s t : State} (h : SlotFrame found s t) : t.mem = s.mem := by
  obtain ⟨hframe, -⟩ := h
  rw [hframe]

theorem composeMsg_mem (e : Env) (virq : Word) (s : State) : (composeMsg e virq s).mem = s.mem := by
  rw [composeMsg_frame e virq s _ rfl]

theorem assignVectors_mem (e : Env) (fn : BitVec 8) (n g : Word) (s : State) :
    (assignVectors e fn n g s).mem = s.mem := by
  obtain ⟨_, _, -, hc⟩ | ⟨_, -, hc⟩ | ⟨_, -, -, -, -, -, -, -, -, ⟨-, hc⟩ | ⟨-, hc⟩⟩ :=
    assignVectors_cases e fn n g s <;> rw [hc] <;> rfl

theorem freeVectors_mem (fn : BitVec 8) (s : State) : (freeVectors fn s).mem = s.mem := by
  obtain ⟨_, _, -, hc⟩ | ⟨_, -, -, -, hc⟩ := freeVectors_cases fn s <;> rw [hc] <;> rfl

@[simp] theorem buildDomain_mem (e : Env) (p : Parent) (bad : DomStatus) (f : FnId) (s : State) :
    (buildDomain e p bad f s).mem = s.mem := by
  obtain ⟨-, hc⟩ | ⟨-, hc⟩ := buildDomain_cases e p bad f s <;> rw [hc]

@[simp] theorem foldl_buildDomain_mem (e : Env) (p : Parent) (bad : DomStatus) (fs : List FnId) (s : State) :
    (fs.foldl (fun t f => buildDomain e p bad f t) s).mem = s.mem := by
  induction fs generalizing s with
  | nil => rfl
  | cons f fs ih => rw [List.foldl_cons, ih, buildDomain_mem]

@[simp] theorem askRemap_mem (e : Env) (s : State) : (askRemap e s).mem = s.mem := rfl

theorem buildOne_mem (e : Env) (fn : BitVec 8) (s : State) : (buildOne e fn s).mem = s.mem := by
  obtain ⟨_, _, -, hc⟩ | hc | ⟨_, -, -, -, -, hc⟩ | ⟨_, -, -, -, -, -, hc⟩ := buildOne_cases e fn s <;> simp [hc]

theorem buildAll_mem (e : Env) (s : State) : (buildAll e s).mem = s.mem := by
  obtain ⟨_, _, -, hc⟩ | ⟨-, -, -, hc⟩ | ⟨-, -, -, hc⟩ := buildAll_cases e s <;> simp [hc]

theorem tearDown_mem (e : Env) (s : State) : (tearDown e s).mem = s.mem := by
  obtain ⟨_, _, -, hc⟩ | ⟨-, -, hc⟩ := tearDown_cases e s <;> rw [hc] <;> rfl

theorem queryLookup_mem (fn sf : BitVec 8) (s : State) : (queryLookup fn sf s).mem = s.mem := by
  obtain ⟨_, _, -, hc⟩ | ⟨_, _, -, -, -, ⟨-, hc⟩ | ⟨_, -, hc⟩⟩ := queryLookup_cases fn sf s <;> rw [hc] <;> rfl

theorem initGlue_mem (e : Env) (s : State) : (initGlue e s).mem = s.mem := by
  obtain ⟨-, hc⟩ | ⟨-, hc⟩ := initGlue_cases e s <;> rw [hc] <;> rfl

theorem deinitGlue_mem (e : Env) (s : State) : (deinitGlue e s).mem = s.mem := by
  obtain ⟨_, _, -, hc⟩ | ⟨-, -, hc⟩ := deinitGlue_cases e s <;> rw [hc] <;> rfl

theorem acceptEdge_mem (e : Env) (h : Word) (s : State) : (acceptEdge e h s).mem = s.mem := by
  obtain ⟨-, hc⟩ | ⟨_, _, _, -, -, -, -, hc⟩ | ⟨_, _, -, -, hc⟩ := acceptEdge_cases e h s
  all_goals rw [hc]

theorem demuxBit_mem (e : Env) (g : Group) (i : Nat) (s : State) : (demuxBit e g i s).mem = s.mem := by
  obtain ⟨_, _, -, hc⟩ | hc := demuxBit_cases e g i s <;> simp [hc]

theorem stepDefault_mem (e : Env) (s : State) : (stepDefault e s).mem = s.mem := by
  unfold stepDefault
  split
  · rfl
  · dsimp only
    split <;> rfl

/-! ## The commands and the agents -/

/-- Of the commands' first steps only WR32's stores. -/
theorem storesAtMostOnce_exec {i : Instr} {s t : State} (h : exec i s = .next t) : StoresAtMostOnce s t := by
  cases i <;> obtain rfl := Host.Outcome.next.inj h
  case wr32 off v => exact storesAtMostOnce_checkRal _ _ off (.inr ⟨off, v, rfl⟩)
  case rd32 off => exact storesAtMostOnce_checkRal _ _ off (.inl rfl)
  case setm off m => exact storesAtMostOnce_checkRal _ _ off (.inl rfl)
  case clrm off m => exact storesAtMostOnce_checkRal _ _ off (.inl rfl)
  case maskset off c m => exact storesAtMostOnce_checkRal _ _ off (.inl rfl)
  case alloc fn sf v => exact .inl (slotFrame_allocate _ fn sf v s).mem
  case allocb fn v => exact .inl (slotFrame_allocate _ fn 0x1F v s).mem
  case compose v => exact .inl (composeMsg_mem _ v s)
  case wrmsg v a d => exact .inl (busyFrame_writeMsg _ v a d s).mem
  case mask v => exact .inl (busyFrame_maskLine _ v s).mem
  case unmask v => exact .inl (busyFrame_unmaskLine _ v s).mem
  case free v => exact .inl (slotFrame_releaseLine _ v s).mem
  case assign fn n g => exact .inl (assignVectors_mem _ fn n g s)
  case freei fn => exact .inl (freeVectors_mem fn s)
  case dbuild fn => exact .inl (buildOne_mem _ fn s)
  case dbuildall => exact .inl (buildAll_mem _ s)
  case dtear => exact .inl (tearDown_mem _ s)
  case dlookup fn sf => exact .inl (queryLookup_mem fn sf s)
  case ginit => exact .inl (initGlue_mem _ s)
  case gdeinit => exact .inl (deinitGlue_mem _ s)
  case suspend => exact .inl rfl
  case resume => exact .inl rfl
  case edge ev => exact .inl (acceptEdge_mem _ ev s)

/-- Of the later steps of a command only WRMSG's S6 stores nothing. -/
theorem storesAtMostOnce_resumeWork (w : Work) (s : State) : StoresAtMostOnce s (resumeWork Config.env w s) := by
  cases w with
  | wrmsgS6 i => exact .inl rfl
  | _ => exact .inr ⟨_, _, rfl⟩

/-- Of a demux agent's steps only T2 stores (R195). -/
theorem storesAtMostOnce_stepDemux (g : Group) (s : State) : StoresAtMostOnce s (stepDemux Config.env g s) := by
  unfold stepDemux
  split
  · obtain ⟨-, -, hc⟩ | ⟨-, hc⟩ := demuxT1_cases g s <;> (rw [hc]; exact .inl rfl)
  · exact .inr ⟨_, _, rfl⟩
  · exact .inl rfl
  · exact .inl rfl
  · unfold demuxT5
    split
    · exact .inl rfl
    · exact .inl (demuxBit_mem _ g _ s)

theorem storesAtMostOnce_stepRequester {r : Nat} {s t : State} (h : stepRequester r s = .next t) :
    StoresAtMostOnce s t := by
  obtain rfl | ⟨_, w, -, -, rfl⟩ | ⟨_, i, rest, -, -, -, hx⟩ | ⟨_, _, _, -, -, -, rfl⟩ := stepRequester_cases h
  · exact .inl rfl
  · exact storesAtMostOnce_resumeWork w s
  · exact storesAtMostOnce_exec (s := s.takeWords r rest) hx
  · exact .inl rfl

theorem stepEnvironment_mem {a : Arrival} {s t : State} (h : stepEnvironment a s = .next t) : t.mem = s.mem := by
  obtain ⟨-, rfl⟩ | ⟨_, _, -, rfl⟩ | ⟨ev, -, rfl⟩ | ⟨-, rfl⟩ := stepEnvironment_cases h
  · rfl
  · rfl
  · exact acceptEdge_mem _ ev s
  · rfl

theorem storesAtMostOnce_step {s t : State} (h : step s = .next t) : StoresAtMostOnce s t := by
  obtain ⟨u, rfl, hagent⟩ := step_cases h
  have hu : StoresAtMostOnce s u := by
    obtain ⟨r, -, hr⟩ | ⟨g, -, rfl⟩ | ⟨-, rfl⟩ | ⟨a, -, ha⟩ := hagent
    · exact storesAtMostOnce_stepRequester hr
    · exact storesAtMostOnce_stepDemux g s
    · exact .inl (stepDefault_mem _ s)
    · exact .inl (stepEnvironment_mem ha)
  exact hu

/-- Settles O52: the one register a step may write leaves the window canonical. -/
theorem stepKeepsMemoryCanonical : Obligations.StepKeepsMemoryCanonical := by
  intro s t hs hstep
  obtain hsame | ⟨off, v, hwrite⟩ := storesAtMostOnce_step hstep
  · rw [hsame]
    exact hs
  · rw [hwrite]
    exact Memory.wf_gbWrite s off v hs

end Sys2Proof
end

section
/-! PROOFS. O1–O5: the decoder and the encoder undo each other, and what an illegal header does (R80–R90). -/

namespace Sys2Proof

open Sys2Proof.Machine

/-! ## Which headers are legal (R83, R84) -/

theorem operandCount_isSome_iff (opc : BitVec 8) : (operandCount opc).isSome = true ↔
    opc ∈ ([0x01, 0x02, 0x03, 0x04, 0x05, 0x10, 0x11, 0x12, 0x13, 0x14, 0x15, 0x16, 0x17, 0x20, 0x21, 0x22, 0x23, 0x30,
      0x31, 0x32, 0x33] : List (BitVec 8)) := by
  revert opc
  decide

theorem usesFn_iff (opc : BitVec 8) :
    usesFn opc = true ↔ opc ∈ ([0x10, 0x16, 0x17, 0x20, 0x23] : List (BitVec 8)) := by
  revert opc
  decide

theorem usesSf_iff (opc : BitVec 8) : usesSf opc = true ↔ opc ∈ ([0x10, 0x23] : List (BitVec 8)) := by
  revert opc
  decide

theorem headerLegal_iff (h : Word) : headerLegal h = true ↔
    (operandCount (headerOpc h)).isSome = true ∧ headerRsv h = 0 ∧ (usesFn (headerOpc h) = true ∨ headerFn h = 0) ∧
      (usesSf (headerOpc h) = true ∨ headerSf h = 0) := by
  simp only [headerLegal, Bool.and_eq_true, Bool.or_eq_true, decide_eq_true_eq, and_assoc]

/-- The four cases of R84. -/
theorem headerLegal_eq_false_iff (h : Word) : headerLegal h = false ↔
    ¬ (operandCount (headerOpc h)).isSome = true ∨ headerRsv h ≠ 0 ∨
      (headerFn h ≠ 0 ∧ ¬ usesFn (headerOpc h) = true) ∨ (headerSf h ≠ 0 ∧ ¬ usesSf (headerOpc h) = true) := by
  rw [← Bool.not_eq_true, headerLegal_iff]
  tauto

theorem decode_of_legal {h : Word} (hlegal : headerLegal h = true) (ops : List Word) :
    decode (h :: ops) = decodeLegal h ops := if_pos hlegal

theorem decode_of_illegal {h : Word} (hillegal : headerLegal h = false) (ops : List Word) :
    decode (h :: ops) = .illegal h ops := if_neg (by simp [hillegal])

/-! ## Decoding what was encoded (R80–R83, R87–R90) -/

theorem decode_encode (i : Instr) (rest : List Word) (hwf : i.wellFormed = true) (hi : ∀ h, i ≠ .edge h) :
    decode (encode i ++ rest) = .command i rest := by
  obtain ⟨h, ops, henc, hlegal, -⟩ := encode_eq_cons hi
  rw [henc, List.cons_append, decode_of_legal hlegal]
  cases i <;> obtain ⟨rfl, rfl⟩ := List.cons.inj henc
  case edge ev => exact absurd rfl (hi ev)
  case alloc fn sf virq =>
    have hsf : ¬ sf = 0x1F#8 := of_decide_eq_true hwf
    simp [decodeLegal, take1, hsf]
  all_goals simp [decodeLegal, take1, take2, take3]

theorem ofNat_toNat_mod (h : Word) : BitVec.ofNat 32 (h.toNat % 2 ^ 32) = h := by
  simp [Nat.mod_eq_of_lt h.isLt]

theorem tableWords_eq_cons (h : Word) : ∃ ops, tableWords 32 h.toNat = h :: ops :=
  ⟨_, congrArg (· :: _) (ofNat_toNat_mod h)⟩

/-- An event word has the opcode bits zero, and no command has opcode 0 (log 10). -/
theorem headerLegal_of_event {h : Word} (hzero : h &&& eventZeroBits = 0) : headerLegal h = false := by
  have hopc : headerOpc h = 0 := by
    have hmask : ∀ i < 8, eventZeroBits.getLsbD (24 + i) = true := by decide
    ext i hi
    have hbit : (h &&& eventZeroBits).getLsbD (24 + i) = false := by simp [hzero]
    simpa [headerOpc, hmask i hi] using hbit
  exact (headerLegal_eq_false_iff h).2 (.inl (by rw [hopc]; decide))

theorem decodeTableWord_event {h : Word} (hzero : h &&& eventZeroBits = 0) :
    decodeTableWord 32 h.toNat = some (.edge h) := by
  obtain ⟨ops, hops⟩ := tableWords_eq_cons h
  simp only [decodeTableWord, hops, decode_of_illegal (headerLegal_of_event hzero), ofNat_toNat_mod, if_pos hzero]

/-- Settles O1: a command by its constructor, an event because its word is no command's header. -/
theorem decodeOfEncode : Obligations.DecodeOfEncode :=
  ⟨decode_encode, fun _ hwf => decodeTableWord_event (of_decide_eq_true hwf)⟩

/-! ## Encoding what was decoded (R80, R84, R90) -/

section
variable {ops rest : List Word} {i : Instr}

theorem take1_eq_command {k : Word → Instr} :
    take1 k ops = .command i rest ↔ ∃ a, i = k a ∧ ops = a :: rest := by
  match ops with
  | [] | _ :: _ => simp [take1, eq_comm]

theorem take2_eq_command {k : Word → Word → Instr} :
    take2 k ops = .command i rest ↔ ∃ a b, i = k a b ∧ ops = a :: b :: rest := by
  match ops with
  | [] | [_] | _ :: _ :: _ => simp [take2, eq_comm]

theorem take3_eq_command {k : Word → Word → Word → Instr} :
    take3 k ops = .command i rest ↔ ∃ a b c, i = k a b c ∧ ops = a :: b :: c :: rest := by
  match ops with
  | [] | [_] | [_, _] | _ :: _ :: _ :: _ => simp [take3, eq_comm]

/-- The command a legal header begins, for each opcode: its unused fields are zero and its operand words are taken. -/
theorem encode_of_decodeLegal {opc fn sf : BitVec 8} (hopc : (operandCount opc).isSome = true)
    (hfn : usesFn opc = true ∨ fn = 0) (hsf : usesSf opc = true ∨ sf = 0)
    (hdec : decodeLegal (header opc fn sf) ops = .command i rest) :
    i.wellFormed = true ∧ (∀ h, i ≠ .edge h) ∧ encode i ++ rest = header opc fn sf :: ops := by
  rw [operandCount_isSome_iff] at hopc
  simp only [decodeLegal, headerOpc_header, headerFn_header, headerSf_header] at hdec
  fin_cases hopc
  all_goals grind [take1_eq_command, take2_eq_command, take3_eq_command, encode, Instr.wellFormed, usesFn, usesSf]

end

/-- Settles O2: only a legal header begins a command, and it is `header` of its own fields. -/
theorem encodeOfDecode : Obligations.EncodeOfDecode := by
  intro ws i rest hdec
  match ws with
  | [] => cases hdec
  | h :: ops =>
    cases hlegal : headerLegal h with
    | false =>
      rw [decode_of_illegal hlegal] at hdec
      cases hdec
    | true =>
      rw [decode_of_legal hlegal] at hdec
      obtain ⟨hopc, hrsv, hfn, hsf⟩ := (headerLegal_iff h).1 hlegal
      rw [← header_fields h hrsv] at hdec ⊢
      exact encode_of_decodeLegal hopc hfn hsf hdec

/-- Settles O3: the words of 95_test_vectors.md, run through the decoder. -/
theorem sampleWordsDecode : Obligations.SampleWordsDecode := by
  unfold Obligations.SampleWordsDecode
  decide

/-! ## An illegal header's step (R84) -/

theorem step_of_illegal {s : State} {r : Nat} {p : Port} {h : Word} {rest : List Word} (hturn : s.turn = .req r)
    (hp : s.ports[r]? = some p) (hidle : p.work = none) (hdec : decode p.words = .illegal h rest) :
    step s = .next (((s.takeWords r rest).raise .illegalCommand h).advance Config.env) :=
  step_of_stepTurn (by simp only [hturn, stepTurn, stepRequester, hp, hidle, hdec])

/-- Settles O4: each of the four cases makes the header illegal. -/
theorem illegalHeaderRaises : Obligations.IllegalHeaderRaises := by
  intro s r p h ops hturn hp hidle hwords hcases
  have hillegal : headerLegal h = false := by
    rw [headerLegal_eq_false_iff, operandCount_isSome_iff, usesFn_iff, usesSf_iff]
    exact hcases
  exact step_of_illegal hturn hp hidle (by rw [hwords, decode_of_illegal hillegal])

/-- Settles O5: the two constructors share their meaning and their words, and the header is its fields shifted. -/
theorem allocbExpands : Obligations.AllocbExpands := by
  intro fn virq s
  refine ⟨rfl, rfl, ?_⟩
  rw [encode, header_eq]
  rfl

end Sys2Proof
end

section
/-! PROOFS. O42, O44: what a fault records, and the one answer of a command (R22, R38, R86, R220, R224, R226). -/

namespace Sys2Proof

open Sys2Proof.Machine

/-! ## Faults and responses (R86, R220, R224, R226) -/

theorem satSucc_toNat (n : Word) : (satSucc n).toNat = min (n.toNat + 1) 0xFFFFFFFF := by
  unfold satSucc
  split
  · next h => rw [h]; rfl
  · next h =>
    have hne : n.toNat ≠ 0xFFFFFFFF := fun hn => h (BitVec.eq_of_toNat_eq hn)
    have hlt := n.isLt
    have hadd : (n + 1).toNat = n.toNat + 1 := BitVec.toNat_add_of_lt (by change n.toNat + 1 < 2 ^ 32; omega)
    omega

/-- Word 0 of a response has the status in bits 7:0 and zeros above (R86). -/
theorem toWords_status (a : Response) : ∃ w : Word, a.toWords = w :: a.results ∧ w.extractLsb' 0 8 = a.status.code ∧
    w.extractLsb' 8 24 = 0 := by
  refine ⟨a.status.code.setWidth 32, rfl, ?_, ?_⟩
  · ext i hi
    simp [hi, show i < 32 by omega]
  · ext i hi
    simp

/-- A response changes its issuer's port alone. -/
theorem respond_other_port {s : State} {r r' : Nat} (st : Status) (rs : List Word) (hturn : s.turn = .req r)
    (hr : r' ≠ r) : (s.respond st rs).ports[r']? = s.ports[r']? := by
  simp [issuer_of_req hturn, hr.symm]

/-- A command that stops between two steps changes its issuer's port alone. -/
theorem hold_other_port {s : State} {r r' : Nat} (w : Work) (hturn : s.turn = .req r) (hr : r' ≠ r) :
    (s.hold w).ports[r']? = s.ports[r']? := by
  simp [issuer_of_req hturn, hr.symm]

/-- Settles O42: `raise` writes the record, then answers on the issuing port; the codes are read off `Status.code`. -/
theorem raiseRecordsFault : Obligations.RaiseRecordsFault :=
  ⟨fun s _ _ f _ hturn hp => ⟨rfl, rfl, satSucc_toNat s.fltCount, respond_issuer_port f [] hturn hp,
    fun _ hr => respond_other_port f [] hturn hr, rfl⟩, rfl, rfl, toWords_status⟩

/-! ## One answer for each command (R22, R38, R86) -/

/-- What a step of a command does to the ports: it holds the command or answers it, on the issuing port alone. -/
inductive HoldsOrAnswers (s t : State) : Prop where
  | holds (w : Work) (hports : t.ports = (s.hold w).ports)
  | answers (st : Status) (rs : List Word) (hrs : st ≠ .ok → rs = []) (hports : t.ports = (s.respond st rs).ports)

/-- The turn and the ports are the same. -/
structure SamePorts (s u : State) : Prop where
  turn : u.turn = s.turn
  ports : u.ports = s.ports

theorem SameUse.samePorts {s u : State} (h : SameUse s u) : SamePorts s u := ⟨h.turn, h.ports⟩

section
variable {s t u : State} {w : Work} {st : Status} {rs : List Word}

theorem SamePorts.issuer (h : SamePorts s u) : u.issuer = s.issuer := by
  rw [State.issuer, State.issuer, h.turn]

theorem SamePorts.hold (h : SamePorts s u) : HoldsOrAnswers s (u.hold w) :=
  .holds w (by rw [State.hold_ports, State.hold_ports, h.issuer, h.ports])

theorem SamePorts.respond (h : SamePorts s u) (hrs : st ≠ .ok → rs = []) : HoldsOrAnswers s (u.respond st rs) :=
  .answers st rs hrs (by rw [State.respond_ports, State.respond_ports, h.issuer, h.ports])

/-- An answer of OK has any result words. -/
theorem SamePorts.respond_ok (h : SamePorts s u) : HoldsOrAnswers s (u.respond .ok rs) :=
  h.respond fun hne => absurd rfl hne

/-- An answer without result words has any status. -/
theorem SamePorts.respond_nil (h : SamePorts s u) : HoldsOrAnswers s (u.respond st []) :=
  h.respond fun _ => rfl

theorem holdsOrAnswers_raise (s : State) (f : Status) (info : Word) : HoldsOrAnswers s (s.raise f info) :=
  SamePorts.respond_nil ⟨rfl, rfl⟩

/-- The ports after it, with the issuing port named. -/
theorem HoldsOrAnswers.ports_cases {r : Nat} {p : Port} (h : HoldsOrAnswers s t) (hturn : s.turn = .req r)
    (hp : s.ports[r]? = some p) : (∀ r' : Nat, r' ≠ r → t.ports[r']? = s.ports[r']?) ∧
    ((∃ w, t.ports[r]? = some { p with work := some w }) ∨
     (∃ a, (a.status ≠ .ok → a.results = []) ∧
       t.ports[r]? = some { p with work := none, responses := p.responses ++ [a] })) := by
  cases h with
  | holds w hports =>
    rw [hports]
    exact ⟨fun r' hr => hold_other_port w hturn hr, .inl ⟨w, hold_issuer_port w hturn hp⟩⟩
  | answers st rs hrs hports =>
    rw [hports]
    exact ⟨fun r' hr => respond_other_port st rs hturn hr, .inr ⟨⟨st, rs⟩, hrs, respond_issuer_port st rs hturn hp⟩⟩

end

/-! ## The first steps of the commands -/

theorem holdsOrAnswers_checkRal {s k : State} (e : Env) (opc : BitVec 8) (off : Word) (hk : HoldsOrAnswers s k) :
    HoldsOrAnswers s (checkRal e opc off s k) := by
  obtain ⟨-, hc⟩ | ⟨-, -, hc⟩ | ⟨-, -, hc⟩ := checkRal_cases e opc off s k <;> rw [hc]
  · exact holdsOrAnswers_raise s _ _
  · exact holdsOrAnswers_raise s _ _
  · exact hk

section
variable (e : Env) (s : State)

theorem holdsOrAnswers_allocate (fn sf : BitVec 8) (virq : Word) : HoldsOrAnswers s (allocate e fn sf virq s) := by
  obtain ⟨_, _, -, hc⟩ | ⟨_, -, hc⟩ | ⟨_, _, _, -, -, -, -, -, -, -, -, -, hc⟩ := allocate_cases e fn sf virq s <;>
    rw [hc]
  · exact holdsOrAnswers_raise s _ _
  · exact SamePorts.respond_nil ⟨rfl, rfl⟩
  · exact SamePorts.respond_ok ⟨rfl, rfl⟩

theorem holdsOrAnswers_composeMsg (virq : Word) : HoldsOrAnswers s (composeMsg e virq s) := by
  obtain ⟨-, hc⟩ | ⟨_, _, -, hc⟩ | ⟨_, -, -, -, hc⟩ := composeMsg_cases e virq s <;> rw [hc]
  · exact SamePorts.respond_ok ⟨rfl, rfl⟩
  · exact holdsOrAnswers_raise s _ _
  · exact SamePorts.respond_ok ⟨rfl, rfl⟩

theorem holdsOrAnswers_writeMsg (virq addr data : Word) : HoldsOrAnswers s (writeMsg e virq addr data s) := by
  refine withLine_holds _ virq (holdsOrAnswers_raise s) fun i _ => ?_
  split
  · exact SamePorts.respond_ok ⟨rfl, rfl⟩
  · exact SamePorts.hold ⟨rfl, rfl⟩

theorem holdsOrAnswers_maskLine (virq : Word) : HoldsOrAnswers s (maskLine e virq s) :=
  withLine_holds _ virq (holdsOrAnswers_raise s) fun _ _ => SamePorts.hold ⟨rfl, rfl⟩

theorem holdsOrAnswers_unmaskLine (virq : Word) : HoldsOrAnswers s (unmaskLine e virq s) := by
  refine withLine_holds _ virq (holdsOrAnswers_raise s) fun i _ => ?_
  split
  · exact holdsOrAnswers_raise s _ _
  · exact SamePorts.hold ⟨rfl, rfl⟩

theorem holdsOrAnswers_releaseLine (virq : Word) : HoldsOrAnswers s (releaseLine e virq s) := by
  refine withLine_holds _ virq (holdsOrAnswers_raise s) fun i _ => ?_
  split
  · exact holdsOrAnswers_raise s _ _
  · exact SamePorts.respond_ok ⟨rfl, rfl⟩

theorem holdsOrAnswers_assignVectors (fn : BitVec 8) (n g : Word) :
    HoldsOrAnswers s (assignVectors e fn n g s) := by
  obtain ⟨_, _, -, hc⟩ | ⟨_, -, hc⟩ | ⟨_, -, -, -, -, -, -, -, -, ⟨-, hc⟩ | ⟨-, hc⟩⟩ :=
    assignVectors_cases e fn n g s <;> rw [hc]
  · exact holdsOrAnswers_raise s _ _
  · exact SamePorts.respond_nil ⟨rfl, rfl⟩
  · exact SamePorts.respond_ok ⟨rfl, rfl⟩
  · exact SamePorts.respond_ok ⟨rfl, rfl⟩

theorem holdsOrAnswers_freeVectors (fn : BitVec 8) : HoldsOrAnswers s (freeVectors fn s) := by
  obtain ⟨_, _, -, hc⟩ | ⟨_, -, -, -, hc⟩ := freeVectors_cases fn s <;> rw [hc]
  · exact holdsOrAnswers_raise s _ _
  · exact SamePorts.respond_ok ⟨rfl, rfl⟩

theorem holdsOrAnswers_buildOne (fn : BitVec 8) : HoldsOrAnswers s (buildOne e fn s) := by
  obtain ⟨_, _, -, hc⟩ | hc | ⟨f, -, -, -, -, hc⟩ | ⟨f, -, -, -, -, -, hc⟩ := buildOne_cases e fn s <;> rw [hc]
  · exact holdsOrAnswers_raise s _ _
  · exact SamePorts.respond_nil ⟨rfl, rfl⟩
  · exact (sameUse_buildDomain_askRemap e _ _ f s).samePorts.respond_nil
  · exact (sameUse_buildDomain e _ _ f s).samePorts.respond_nil

theorem holdsOrAnswers_buildAll : HoldsOrAnswers s (buildAll e s) := by
  have hprimary := sameUse_buildDomain_askRemap e (drawnParent e s) .unbuilt e.par.primary s
  obtain ⟨_, _, -, hc⟩ | ⟨-, -, -, hc⟩ | ⟨-, -, -, hc⟩ := buildAll_cases e s <;> rw [hc]
  · exact holdsOrAnswers_raise s _ _
  · exact hprimary.samePorts.respond_nil
  · exact (hprimary.trans (sameUse_foldl_buildDomain e _ _ _ _)).samePorts.respond_ok

theorem holdsOrAnswers_tearDown : HoldsOrAnswers s (tearDown e s) := by
  obtain ⟨_, _, -, hc⟩ | ⟨-, -, hc⟩ := tearDown_cases e s <;> rw [hc]
  · exact holdsOrAnswers_raise s _ _
  · exact SamePorts.respond_ok ⟨rfl, rfl⟩

theorem holdsOrAnswers_queryLookup (fn sf : BitVec 8) : HoldsOrAnswers s (queryLookup fn sf s) := by
  obtain ⟨_, _, -, hc⟩ | ⟨_, _, -, -, -, ⟨-, hc⟩ | ⟨_, -, hc⟩⟩ := queryLookup_cases fn sf s <;> rw [hc]
  · exact holdsOrAnswers_raise s _ _
  · exact SamePorts.respond_ok ⟨rfl, rfl⟩
  · exact SamePorts.respond_ok ⟨rfl, rfl⟩

theorem holdsOrAnswers_initGlue : HoldsOrAnswers s (initGlue e s) := by
  obtain ⟨-, hc⟩ | ⟨-, hc⟩ := initGlue_cases e s <;> rw [hc]
  · exact holdsOrAnswers_raise s _ _
  · exact SamePorts.respond_ok ⟨rfl, rfl⟩

theorem holdsOrAnswers_deinitGlue : HoldsOrAnswers s (deinitGlue e s) := by
  obtain ⟨_, _, -, hc⟩ | ⟨-, -, hc⟩ := deinitGlue_cases e s <;> rw [hc]
  · exact holdsOrAnswers_raise s _ _
  · exact SamePorts.respond_ok ⟨rfl, rfl⟩

end

/-- Every first step but an edge event's acceptance, which is no command's. -/
theorem holdsOrAnswers_exec {i : Instr} {s t : State} (hi : ∀ h, i ≠ .edge h) (ht : exec i s = .next t) :
    HoldsOrAnswers s t := by
  cases i <;> obtain rfl := Host.Outcome.next.inj ht
  case rd32 off => exact holdsOrAnswers_checkRal _ _ off (SamePorts.respond_ok ⟨rfl, rfl⟩)
  case wr32 off v => exact holdsOrAnswers_checkRal _ _ off (SamePorts.respond_ok ⟨rfl, rfl⟩)
  case setm off m => exact holdsOrAnswers_checkRal _ _ off (SamePorts.hold ⟨rfl, rfl⟩)
  case clrm off m => exact holdsOrAnswers_checkRal _ _ off (SamePorts.hold ⟨rfl, rfl⟩)
  case maskset off c m => exact holdsOrAnswers_checkRal _ _ off (SamePorts.hold ⟨rfl, rfl⟩)
  case alloc fn sf v => exact holdsOrAnswers_allocate _ s fn sf v
  case allocb fn v => exact holdsOrAnswers_allocate _ s fn 0x1F v
  case compose v => exact holdsOrAnswers_composeMsg _ s v
  case wrmsg v a d => exact holdsOrAnswers_writeMsg _ s v a d
  case mask v => exact holdsOrAnswers_maskLine _ s v
  case unmask v => exact holdsOrAnswers_unmaskLine _ s v
  case free v => exact holdsOrAnswers_releaseLine _ s v
  case assign fn n g => exact holdsOrAnswers_assignVectors _ s fn n g
  case freei fn => exact holdsOrAnswers_freeVectors s fn
  case dbuild fn => exact holdsOrAnswers_buildOne _ s fn
  case dbuildall => exact holdsOrAnswers_buildAll _ s
  case dtear => exact holdsOrAnswers_tearDown _ s
  case dlookup fn sf => exact holdsOrAnswers_queryLookup s fn sf
  case ginit => exact holdsOrAnswers_initGlue _ s
  case gdeinit => exact holdsOrAnswers_deinitGlue _ s
  case suspend => exact SamePorts.respond_ok ⟨rfl, rfl⟩
  case resume => exact SamePorts.respond_ok ⟨rfl, rfl⟩
  case edge ev => exact absurd rfl (hi ev)

/-! ## The later steps of a command in progress -/

/-- WRMSG's S2 to S6 hold the command, every other later step answers OK. -/
theorem holdsOrAnswers_resumeWork (e : Env) (w : Work) (s : State) : HoldsOrAnswers s (resumeWork e w s) := by
  cases w with
  | wrmsgS2 | wrmsgS3 | wrmsgS4 | wrmsgS5 | wrmsgS6 => exact SamePorts.hold ⟨rfl, rfl⟩
  | _ => exact SamePorts.respond_ok ⟨rfl, rfl⟩

/-- Settles O44: both kinds of step hold the command or answer it. -/
theorem oneResponsePerCommand : Obligations.OneResponsePerCommand := by
  rintro s t r p hturn hp (⟨i, hi, ht⟩ | ⟨w, -, rfl⟩)
  · exact (holdsOrAnswers_exec hi ht).ports_cases hturn hp
  · exact (holdsOrAnswers_resumeWork _ w s).ports_cases hturn hp

end Sys2Proof
end

section
/-! PROOFS. O15–O19, O47: the register access commands, their checks, their values and their frame (R63, R100–R105). -/

namespace Sys2Proof

open Sys2Proof.Machine

/-! ## The checks of R100 and the second steps -/

/-- `CHECK_RAL` before GINIT (R100). -/
theorem checkRal_of_uninitialised {s : State} (hinit : s.glueInit = false) (opc : BitVec 8) (off : Word) (k : State) :
    checkRal Config.env opc off s k = s.raise .notInitialized (opcInfo opc) := if_pos hinit

/-- `CHECK_RAL` on an offset that is not admitted (R63, R100). -/
theorem checkRal_of_not_admitted {s : State} {off : Word} (hinit : s.glueInit = true) (hoff : ¬ Admitted s off)
    (opc : BitVec 8) (k : State) : checkRal Config.env opc off s k = s.raise .badOffset off := by
  obtain ⟨hno, -⟩ | ⟨-, -, hc⟩ | ⟨-, hadmits, -⟩ := checkRal_cases Config.env opc off s k
  · exact absurd (hno.symm.trans hinit) Bool.false_ne_true
  · exact hc
  · exact absurd ((admits_iff s off).1 hadmits) hoff

/-- The first step of a register command: each failed check raises its fault, else the command's own step is taken. -/
theorem exec_of_checkRal {i : Instr} {s k : State} {opc : BitVec 8} {off : Word}
    (hexec : exec i s = .next (checkRal Config.env opc off s k)) :
    (s.glueInit = false → exec i s = .next (s.raise .notInitialized (opcInfo opc))) ∧
    (s.glueInit = true → ¬ Admitted s off → exec i s = .next (s.raise .badOffset off)) ∧
    (s.glueInit = true → Admitted s off → exec i s = .next k) := by
  rw [hexec]
  exact ⟨fun hinit => congrArg _ (checkRal_of_uninitialised hinit opc off k),
    fun hinit hoff => congrArg _ (checkRal_of_not_admitted hinit hoff opc k),
    fun hinit hoff => congrArg _ (checkRal_of_admitted hinit hoff opc k)⟩

/-- A command in progress on the port whose turn it is takes its next labelled step. -/
theorem step_of_workOf {s : State} {r : Nat} {w : Work} (hturn : s.turn = .req r) (hw : workOf s r = some w) :
    step s = .next ((resumeWork Config.env w s).advance Config.env) := by
  obtain ⟨p, hp, hpw⟩ := Option.bind_eq_some_iff.1 hw
  exact step_of_work hturn hp hpw

/-- A write of a register changes no other byte (R64, R66). -/
theorem sameBytesBut_gbWrite (s : State) (off v : Word) : SameBytesBut off s (s.gbWrite Config.env off v) :=
  fun _ ha => memByte_memPutWord_outside _ _ v ha

/-! ## The rules (R101–R105) -/

/-- Settles O15: past the checks RD32 is one read and its answer. -/
theorem rd32Rule : Obligations.Rd32Rule := by
  intro s off
  obtain ⟨huninit, hbad, hread⟩ := exec_of_checkRal (exec_rd32 off s)
  refine ⟨rfl, huninit, hbad, fun hinit hoff => ⟨_, rfl, ?_⟩⟩
  rw [hread hinit hoff, ← gbValue_eq]
  rfl

/-- Settles O16: past the checks WR32 is one write and its answer. -/
theorem wr32Rule : Obligations.Wr32Rule := by
  intro s off val
  obtain ⟨huninit, hbad, hwrite⟩ := exec_of_checkRal (exec_wr32 off val s)
  exact ⟨rfl, huninit, hbad, fun hinit hoff => ⟨_, hwrite hinit hoff, rfl, memWord_memPutWord_same ..,
    sameBytesBut_gbWrite s off val⟩⟩

/-- Settles O17: past the checks SETM reads and is held, and its second step runs from any state it is in progress in. -/
theorem setmRule : Obligations.SetmRule := by
  intro s off mask
  obtain ⟨huninit, hbad, hread⟩ := exec_of_checkRal (exec_setm off mask s)
  exact ⟨rfl, huninit, hbad, hread, fun _ _ hturn hw => step_of_workOf hturn hw⟩

/-- Settles O18: CLRM takes SETM's two steps and writes its own value in the second. -/
theorem clrmRule : Obligations.ClrmRule := by
  intro s off mask
  obtain ⟨huninit, hbad, hread⟩ := exec_of_checkRal (exec_clrm off mask s)
  exact ⟨rfl, huninit, hbad, hread, fun _ _ hturn hw => step_of_workOf hturn hw⟩

/-- Settles O19: MASKSET takes the same two steps and writes its own value in the second. -/
theorem masksetRule : Obligations.MasksetRule := by
  intro s off clr set
  obtain ⟨huninit, hbad, hread⟩ := exec_of_checkRal (exec_maskset off clr set s)
  exact ⟨rfl, huninit, hbad, hread, fun _ _ hturn hw => step_of_workOf hturn hw⟩

/-! ## The frame of the first steps (R100) -/

/-- The frame of RD32 and of the first steps of SETM, CLRM and MASKSET: no store. -/
def ReadFrame (s t : State) : Prop :=
  t = { s with ports := t.ports, gbLog := t.gbLog, fltCode := t.fltCode, fltInfo := t.fltInfo, fltCount := t.fltCount }

/-- The frame of WR32: the four bytes at `off` are all it stores. -/
def StoreFrame (off : Word) (s t : State) : Prop :=
  t = { s with ports := t.ports, gbLog := t.gbLog, fltCode := t.fltCode, fltInfo := t.fltInfo, fltCount := t.fltCount,
               mem := t.mem } ∧ SameBytesBut off s t

/-- What holds of every fault that `CHECK_RAL` may raise, and of the command's own step, holds of its first step. -/
theorem checkRal_holds {P : State → Prop} {s k : State} (e : Env) (opc : BitVec 8) (off : Word)
    (hraise : ∀ f info, P (s.raise f info)) (hk : P k) : P (checkRal e opc off s k) := by
  obtain ⟨-, hc⟩ | ⟨-, -, hc⟩ | ⟨-, -, hc⟩ := checkRal_cases e opc off s k <;> rw [hc]
  · exact hraise _ _
  · exact hraise _ _
  · exact hk

theorem readFrame_checkRal {s k : State} (e : Env) (opc : BitVec 8) (off : Word) (hk : ReadFrame s k) :
    ReadFrame s (checkRal e opc off s k) :=
  checkRal_holds e opc off (fun _ _ => rfl) hk

theorem storeFrame_writeReg (off v : Word) (s : State) : StoreFrame off s (writeReg Config.env off v s) :=
  checkRal_holds _ _ off (fun _ _ => ⟨rfl, fun _ _ => rfl⟩) ⟨rfl, sameBytesBut_gbWrite s off v⟩

/-- Settles O47: a failed check changes only the fault record and the port, a read only its record and the port. -/
theorem ralFrame : Obligations.RalFrame := by
  intro s t off a b
  refine ⟨fun h => ?_, fun h => ?_⟩
  · obtain h | h | h | h := h <;> obtain rfl := Host.Outcome.next.inj h
    all_goals exact readFrame_checkRal _ _ off rfl
  · obtain rfl := Host.Outcome.next.inj h
    exact storeFrame_writeReg off a s

end Sys2Proof
end

section
/-! PROOFS. O51: the frame of the later steps of a command and of the demux and default agents (R103–R105, R135, R140,
R141, R194–R202). -/

namespace Sys2Proof

open Sys2Proof.Machine

/-! ## The later steps of a command -/

/-- The frame of a later step that works on the line `l`, if any, and stores to the offset `o`, if any. -/
structure WorkFrame (l : Option SlotIx) (o : Option Word) (s t : State) : Prop where
  frame : t = { s with ports := t.ports, lines := t.lines, mem := t.mem, gbLog := t.gbLog }
  lines : ∀ j : SlotIx, t.lines[j] = { s.lines[j] with st := t.lines[j].st, busy := t.lines[j].busy } ∧
    (l ≠ some j → t.lines[j] = s.lines[j])
  noStore : o = none → t.mem = s.mem
  store : ∀ off, o = some off → SameBytesBut off s t

/-- A register is written, and the command held or answered. -/
theorem workFrame_of_store {l : Option SlotIx} {off v : Word} {s t : State}
    (h : t = { s.gbWrite Config.env off v with ports := t.ports }) : WorkFrame l (some off) s t := by
  rw [h]
  exact ⟨rfl, fun _ => ⟨rfl, fun _ => rfl⟩, nofun, fun _ ho => Option.some.inj ho ▸ sameBytesBut_gbWrite s off v⟩

/-- A register is written, the line set and the command answered. -/
theorem workFrame_setLine (i : SlotIx) (off v : Word) (ls : LineState) (b : Bool) (st : Status) (rs : List Word)
    (s : State) :
    WorkFrame (some i) (some off) s (((s.gbWrite Config.env off v).setLine i ls b).respond st rs) := by
  refine ⟨rfl, fun j => ⟨(quiet_setLine (s.gbWrite Config.env off v) i ls b).lines j, fun hne => ?_⟩, nofun,
    fun _ ho => Option.some.inj ho ▸ sameBytesBut_gbWrite s off v⟩
  have hji : j ≠ i := fun h => hne (congrArg some h.symm)
  rw [State.respond_lines, State.setLine_lines, getElem_set_fin, if_neg hji, State.gbWrite_lines]

/-- WRMSG's S6 only reads, its S7 and the second steps of MASK and UNMASK set the line, every other step only writes. -/
theorem workFrame_resumeWork (w : Work) (s : State) :
    WorkFrame (workLine w) (workStore (Config.params.regs s.variantLatch) w) s (resumeWork Config.env w s) := by
  cases w with
  | wrmsgS6 i => exact ⟨rfl, fun _ => ⟨rfl, fun _ => rfl⟩, fun _ => rfl, nofun⟩
  | wrmsgS7 i t => exact workFrame_setLine i _ _ _ false .ok [] s
  | maskS2 i f b t => exact workFrame_setLine i _ _ _ false .ok [] s
  | unmaskS2 i f b t => exact workFrame_setLine i _ _ _ false .ok [] s
  | _ => exact workFrame_of_store rfl

/-! ## The demux agents -/

/-- The frame of a step of `DMX[g]`, but for what it stores. -/
structure DemuxFrame (g : Group) (s t : State) : Prop where
  frame : t = { s with ackLock := t.ackLock, ependG := t.ependG, dmx := t.dmx, dlog := t.dlog, diagSkip := t.diagSkip,
                       mem := t.mem, gbLog := t.gbLog }
  others : ∀ g' : Group, g' ≠ g → t.ependG.get g' = s.ependG.get g' ∧ t.dmx.get g' = s.dmx.get g'

/-- The lock, the dispatches, the window and the records change, no group's pending bit or local state. -/
theorem demuxFrame_of_frame {g : Group} {s t : State} (h : t = { s with
    ackLock := t.ackLock, dlog := t.dlog, diagSkip := t.diagSkip, mem := t.mem, gbLog := t.gbLog }) :
    DemuxFrame g s t := by
  rw [h]
  exact ⟨rfl, fun _ _ => ⟨rfl, rfl⟩⟩

/-- The agent then sets its own local state. -/
theorem DemuxFrame.setDmx {g : Group} {s t : State} (h : DemuxFrame g s t) (d : Dmx) :
    DemuxFrame g s (t.setDmx g d) := by
  refine ⟨?_, fun g' hg' => ?_⟩
  · rw [h.frame]
    rfl
  · rw [State.setDmx_ependG, State.setDmx_dmx, PerGroup.get_set, if_neg hg']
    exact h.others g' hg'

theorem demuxFrame_demuxT1 (g : Group) (s : State) : DemuxFrame g s (demuxT1 g s) := by
  obtain ⟨-, -, hc⟩ | ⟨-, hc⟩ := demuxT1_cases g s <;> rw [hc]
  · refine DemuxFrame.setDmx (t := { s with ependG := s.ependG.set g false, ackLock := .held g })
      ⟨rfl, fun g' hg' => ⟨?_, rfl⟩⟩ _
    rw [PerGroup.get_set, if_neg hg']
  · exact demuxFrame_of_frame rfl

theorem demuxFrame_demuxBit (e : Env) (g : Group) (i : Nat) (s : State) : DemuxFrame g s (demuxBit e g i s) := by
  obtain ⟨_, _, -, hc⟩ | hc := demuxBit_cases e g i s <;> rw [hc] <;> exact demuxFrame_of_frame rfl

theorem demuxFrame_demuxT5 (e : Env) (g : Group) (s : State) : DemuxFrame g s (demuxT5 e g s) := by
  unfold demuxT5
  split
  · exact (demuxFrame_of_frame rfl).setDmx _
  · exact (demuxFrame_demuxBit e g _ s).setDmx _

theorem demuxFrame_stepDemux (e : Env) (g : Group) (s : State) : DemuxFrame g s (stepDemux e g s) := by
  unfold stepDemux
  split
  · exact demuxFrame_demuxT1 g s
  · exact (demuxFrame_of_frame (t := s.gbWrite e _ _) rfl).setDmx _
  · exact (demuxFrame_of_frame (t := s.gbRead e _) rfl).setDmx _
  · exact (demuxFrame_of_frame (t := { s with ackLock := .free }) rfl).setDmx _
  · exact demuxFrame_demuxT5 e g s

theorem demuxT1_mem (g : Group) (s : State) : (demuxT1 g s).mem = s.mem := by
  obtain ⟨-, -, hc⟩ | ⟨-, hc⟩ := demuxT1_cases g s <;> rw [hc]
  rfl

theorem demuxT5_mem (e : Env) (g : Group) (s : State) : (demuxT5 e g s).mem = s.mem := by
  unfold demuxT5
  split
  · rfl
  · exact demuxBit_mem e g _ s

/-- Only T2 stores (R195). -/
theorem stepDemux_mem_of_ne_t2 {e : Env} {g : Group} {s : State} (h : (s.dmx.get g).phase ≠ .locked .t2) :
    (stepDemux e g s).mem = s.mem := by
  unfold stepDemux
  split
  · exact demuxT1_mem g s
  · next ht2 => exact absurd ht2 h
  · rfl
  · rfl
  · exact demuxT5_mem e g s

/-- T2 stores the ack-write register. -/
theorem sameBytesBut_stepDemux (g : Group) (s : State) :
    SameBytesBut (Config.params.regs s.variantLatch).ackWr s (stepDemux Config.env g s) := by
  by_cases ht2 : (s.dmx.get g).phase = .locked .t2
  · rw [stepDemux_t2 ht2]
    exact sameBytesBut_gbWrite s _ _
  · intro a _
    rw [stepDemux_mem_of_ne_t2 ht2]

/-! ## The default agent -/

theorem stepDefault_frame (e : Env) (s t : State) (ht : t = stepDefault e s) :
    t = { s with ependH := t.ependH, dlog := t.dlog, diagSpurious := t.diagSpurious } := by
  subst ht
  unfold stepDefault
  split
  · rfl
  · dsimp only
    split <;> rfl

/-- Settles O51: the frames of the three kinds of step. -/
theorem agentStepsFrame : Obligations.AgentStepsFrame := by
  intro s w g
  have hw := workFrame_resumeWork w s
  have hg := demuxFrame_stepDemux Config.env g s
  exact ⟨⟨_, rfl, hw.frame, hw.lines, hw.noStore, hw.store⟩,
    ⟨_, rfl, hg.frame, hg.others, stepDemux_mem_of_ne_t2, sameBytesBut_stepDemux g s⟩,
    ⟨_, rfl, stepDefault_frame _ s _ rfl⟩⟩

end Sys2Proof
end

section
/-! PROOFS. O10, O11: the hwirq encoding and the mask bits of a line (R120–R123). -/

namespace Sys2Proof

open Sys2Proof.Machine

/-! ## The hwirq encoding (R120, R121, R123) -/

/-- The fields of R121 are those of the one hwirq that encodes them. -/
theorem encHwirq_eq_iff (h : Word) (f : FnId) (l : SubId) : encHwirq f l = h ↔
    h.extractLsb' 16 16 = 0 ∧ h.extractLsb' 5 3 = 0 ∧
    (h.extractLsb' 8 8).toNat = f.val ∧ (h.extractLsb' 0 5).toNat = l.val := by
  have hlt := h.isLt
  simp only [← BitVec.toNat_inj, encHwirq_toNat, BitVec.extractLsb'_toNat, Nat.shiftRight_eq_div_pow,
    BitVec.ofNat_eq_ofNat, BitVec.toNat_ofNat]
  omega

/-- `dec_hwirq` reads the fields of R121. -/
theorem decHwirq_eq_some_iff (h : Word) (f : FnId) (l : SubId) : decHwirq h = some (f, l) ↔
    h.extractLsb' 16 16 = 0 ∧ h.extractLsb' 5 3 = 0 ∧
    (h.extractLsb' 8 8).toNat = f.val ∧ (h.extractLsb' 0 5).toNat = l.val := by
  unfold decHwirq
  split
  · next hzero =>
    obtain ⟨hhigh, hgap⟩ := hzero
    split
    · next f' hf' => simp [hhigh, hgap, ← fnId?_val hf', Fin.ext_iff]
    · next hnone =>
      refine iff_of_false nofun fun ⟨_, _, hf, _⟩ => ?_
      rw [fnId?_eq_some hf] at hnone
      cases hnone
  · next hzero => exact iff_of_false nofun fun ⟨hhigh, hgap, _⟩ => hzero ⟨hhigh, hgap⟩

/-- `dec_hwirq` finds what `enc_hwirq` encoded, and nothing else (R123). -/
theorem decHwirq_eq_some_iff_encHwirq (h : Word) (f : FnId) (l : SubId) :
    decHwirq h = some (f, l) ↔ encHwirq f l = h := by
  rw [decHwirq_eq_some_iff, encHwirq_eq_iff]

/-- Settles O10: both directions say that `dec_hwirq` inverts `enc_hwirq`, whose fields are those of R121. -/
theorem hwirqRoundTrip : Obligations.HwirqRoundTrip :=
  ⟨fun f l => (decHwirq_eq_some_iff_encHwirq _ f l).2 rfl, fun h f l => (decHwirq_eq_some_iff_encHwirq h f l).1,
    decHwirq_eq_some_iff⟩

/-! ## The mask bits of a line (R122) -/

/-- The sentinel's mask has the count's low bits, with no overflow. -/
theorem maskBits_bcast_toNat {n : Nat} (hn : n ≤ 31) : (maskBits n bcast).toNat = 2 ^ n - 1 := by
  have hone : (1#32 <<< n).toNat = 2 ^ n := by
    rw [← BitVec.twoPow_eq, BitVec.toNat_twoPow, Nat.mod_eq_of_lt (Nat.pow_lt_pow_right (by decide) (by omega))]
  have hpos : 1#32 ≤ 1#32 <<< n := by
    rw [BitVec.le_def, hone]
    exact Nat.two_pow_pos n
  rw [maskBits, if_pos rfl]
  exact (BitVec.toNat_sub_of_le hpos).trans (congrArg (· - 1) hone)

theorem getLsbD_maskBits_bcast {n : Nat} (hn : n ≤ 31) (i : Nat) : (maskBits n bcast).getLsbD i = decide (i < n) := by
  rw [BitVec.getLsbD, maskBits_bcast_toNat hn, Nat.testBit_two_pow_sub_one]

/-- A concrete line's mask is its own bit. -/
theorem getLsbD_maskBits_of_ne_bcast (n : Nat) {l : SubId} (hl : l ≠ bcast) (i : Nat) :
    (maskBits n l).getLsbD i = decide (i = l.val) := by
  have hlt := l.isLt
  rw [maskBits, if_neg hl, BitVec.getLsbD_shiftLeft, BitVec.getLsbD_one, Bool.eq_iff_iff]
  simp only [Bool.and_eq_true, Bool.not_eq_true', decide_eq_true_eq, decide_eq_false_iff_not]
  omega

/-- Settles O11: the sentinel's mask by its value, a concrete line's as one shifted bit. -/
theorem maskBitsExact : Obligations.MaskBitsExact := by
  refine ⟨fun f l i _ => ?_, fun f => ?_⟩
  · obtain ⟨-, hmax⟩ := subfuncCount_bounds f
    split
    · next hl => rw [hl, getLsbD_maskBits_bcast hmax, decide_eq_true_eq]
    · next hl => rw [getLsbD_maskBits_of_ne_bcast _ hl, decide_eq_true_eq]
  · obtain ⟨hmin, hmax⟩ := subfuncCount_bounds f
    have hval := maskBits_bcast_toNat hmax
    have hlow : 2 ^ 1 ≤ 2 ^ Config.params.subfuncCount f := Nat.pow_le_pow_right (by decide) hmin
    have hhigh : 2 ^ Config.params.subfuncCount f ≤ 2 ^ 31 := Nat.pow_le_pow_right (by decide) hmax
    refine ⟨?_, ?_, hval⟩ <;> rw [BitVec.le_def, hval]
    · change 1 ≤ _
      omega
    · change _ ≤ 0x7FFFFFFF
      omega

end Sys2Proof
end

section
/-! PROOFS. O22, O23, O25, O26, O29: COMPOSE, WRMSG, MASK, UNMASK and FREE, their checks and their steps (R130–R150). -/

namespace Sys2Proof

open Sys2Proof.Machine

/-! ## The checks they share (R124, R135) -/

theorem findLine_of_holds {s : State} {virq : Word} {k : SlotIx} (hk : HoldsLine s virq k) :
    s.findLine virq = some k := by
  obtain ⟨hslot, hone⟩ := hk
  exact findLine_of_unique hslot hone

/-- The checks of a line command before GINIT. -/
theorem withLine_of_uninitialised {s : State} (hinit : s.glueInit = false) (opc : BitVec 8) (virq : Word)
    (k : SlotIx → State) : withLine opc virq s k = s.raise .notInitialized (opcInfo opc) := if_pos hinit

/-- The checks of a line command on a virq no slot holds. -/
theorem withLine_of_unknown {s : State} {virq : Word} (hinit : s.glueInit = true)
    (hnone : ∀ k : SlotIx, s.slots[k] ≠ some virq) (opc : BitVec 8) (k : SlotIx → State) :
    withLine opc virq s k = s.raise .unknownVirq virq := by
  simp only [withLine, hinit, (findLine_eq_none_iff s virq).2 hnone, Bool.true_eq_false, if_false]

/-- The checks of a line command on the virq's one line, while a command works on it. -/
theorem withLine_of_busy {s : State} {virq : Word} {i : SlotIx} (hinit : s.glueInit = true) (hi : HoldsLine s virq i)
    (hbusy : s.lines[i].busy = true) (opc : BitVec 8) (k : SlotIx → State) :
    withLine opc virq s k = s.raise .reentry virq := by
  simp only [withLine, hinit, findLine_of_holds hi, hbusy, Bool.true_eq_false, if_false, if_true]

/-- The first step of a line command: each failed check raises its fault, else its own step is taken on the virq's
line. -/
theorem exec_of_withLine {i : Instr} {s : State} {opc : BitVec 8} {virq : Word} {k : SlotIx → State}
    (hexec : exec i s = .next (withLine opc virq s k)) :
    (s.glueInit = false → exec i s = .next (s.raise .notInitialized (opcInfo opc))) ∧
    (s.glueInit = true → (∀ j : SlotIx, s.slots[j] ≠ some virq) → exec i s = .next (s.raise .unknownVirq virq)) ∧
    ∀ j : SlotIx, s.glueInit = true → HoldsLine s virq j →
      (s.lines[j].busy = true → exec i s = .next (s.raise .reentry virq)) ∧
      (s.lines[j].busy = false → exec i s = .next (k j)) := by
  rw [hexec]
  exact ⟨fun hinit => congrArg _ (withLine_of_uninitialised hinit opc virq k),
    fun hinit hnone => congrArg _ (withLine_of_unknown hinit hnone opc k),
    fun j hinit hj => ⟨fun hbusy => congrArg _ (withLine_of_busy hinit hj hbusy opc k),
      fun hfree => congrArg _ (withLine_of_unique k hinit hj.1 hj.2 hfree)⟩⟩

/-! ## COMPOSE (R130, R131) -/

theorem composeMsg_of_uninitialised {s : State} (hinit : s.glueInit = false) (e : Env) (virq : Word) :
    composeMsg e virq s =
      State.respond { s with diagFallback := s.diagFallback + 1 } .ok [e.par.msiAddr, virq - 1] := if_pos hinit

theorem composeMsg_of_unknown {s : State} {virq : Word} (hinit : s.glueInit = true)
    (hnone : ∀ k : SlotIx, s.slots[k] ≠ some virq) (e : Env) :
    composeMsg e virq s = s.raise .composeNoSlot virq := by
  simp only [composeMsg, hinit, (findLine_eq_none_iff s virq).2 hnone, Bool.true_eq_false, if_false]

theorem composeMsg_of_holds {s : State} {virq : Word} {k : SlotIx} (hinit : s.glueInit = true)
    (hk : HoldsLine s virq k) (e : Env) : composeMsg e virq s =
      if s.lines[k].busy then s.raise .reentry virq else s.respond .ok [e.par.msiAddr, BitVec.ofNat 32 k.val] := by
  simp only [composeMsg, hinit, findLine_of_holds hk, Bool.true_eq_false, if_false]

/-- Settles O22: no context, no slot, or the one line of the virq, busy or not. -/
theorem composeRule : Obligations.ComposeRule := by
  intro s virq
  simp only [exec_compose]
  refine ⟨rfl, fun hinit => congrArg _ (composeMsg_of_uninitialised hinit _ virq),
    fun hinit hnone => congrArg _ (composeMsg_of_unknown hinit hnone _), fun k hinit hk => ?_⟩
  rw [composeMsg_of_holds hinit hk]
  exact ⟨fun hbusy => congrArg _ (if_pos hbusy), fun hfree => congrArg _ (if_neg (Bool.eq_false_iff.1 hfree))⟩

/-! ## WRMSG (R135, R136) -/

/-- Settles O23: past the checks a zero address answers, any other is held, and each later step runs from any state it is
in progress in. -/
theorem wrmsgRule : Obligations.WrmsgRule := by
  rintro s virq addr data g rfl
  obtain ⟨huninit, hunknown, hline⟩ := exec_of_withLine (exec_wrmsg virq addr data s)
  refine ⟨rfl, huninit, hunknown, fun k hinit hk => ?_, fun r k f l t hturn => ⟨step_of_workOf hturn,
    step_of_workOf hturn, step_of_workOf hturn, step_of_workOf hturn, step_of_workOf hturn,
    fun hw => ⟨_, step_of_workOf hturn hw, ?_⟩⟩⟩
  · obtain ⟨hreentry, hstep⟩ := hline k hinit hk
    exact ⟨hreentry, fun hfree hzero => (hstep hfree).trans (congrArg _ (if_pos hzero)),
      fun hfree haddr => (hstep hfree).trans (congrArg _ (if_neg haddr))⟩
  · rw [← afterWrite_eq]
    rfl

/-! ## MASK and UNMASK (R140, R141) -/

/-- Settles O25: past the checks MASK reads and is held, and its second step runs from any state it is in progress in. -/
theorem maskRule : Obligations.MaskRule := by
  rintro s virq g rfl
  obtain ⟨huninit, hunknown, hline⟩ := exec_of_withLine (exec_mask virq s)
  refine ⟨rfl, huninit, hunknown, hline, fun r k f b t hturn hw => ⟨_, step_of_workOf hturn hw, ?_⟩⟩
  rw [← afterMask_eq]
  rfl

/-- Settles O26: UNMASK has one check more, of the line's state, and its own value in the second step. -/
theorem unmaskRule : Obligations.UnmaskRule := by
  rintro s virq g rfl
  obtain ⟨huninit, hunknown, hline⟩ := exec_of_withLine (exec_unmask virq s)
  refine ⟨rfl, huninit, hunknown, fun k hinit hk => ?_, fun r k f b t hturn hw => ⟨_, step_of_workOf hturn hw, rfl⟩⟩
  obtain ⟨hreentry, hstep⟩ := hline k hinit hk
  exact ⟨hreentry, fun hfree hst => (hstep hfree).trans (congrArg _ (if_pos hst)),
    fun hfree hst => (hstep hfree).trans (congrArg _ (if_neg hst))⟩

/-! ## FREE (R150) -/

/-- Settles O29: past the checks FREE refuses an Unmasked line and empties the slot of any other. -/
theorem freeRule : Obligations.FreeRule := by
  intro s virq
  obtain ⟨huninit, hunknown, hline⟩ := exec_of_withLine (exec_free virq s)
  refine ⟨rfl, huninit, hunknown, fun k hinit hk => ?_⟩
  obtain ⟨hreentry, hstep⟩ := hline k hinit hk
  exact ⟨hreentry, fun hfree hst => (hstep hfree).trans (congrArg _ (if_pos hst)),
    fun hfree hst => ⟨_, (hstep hfree).trans (congrArg _ (if_neg hst))⟩⟩

end Sys2Proof
end

section
/-! PROOFS. O28: a second MASK or UNMASK run alone leaves the mask register as the first did (R142). -/

namespace Sys2Proof

open Sys2Proof.Machine

/-- A line command of port `r` on `virq` starts from here and passes its first checks: the port is idle with its turn,
and line `k` is the virq's one line and not busy. -/
structure LineReady (s : State) (r : Nat) (virq : Word) (k : SlotIx) : Prop where
  turn : s.turn = .req r
  idle : ∃ p, s.ports[r]? = some p ∧ p.work = none
  init : s.glueInit = true
  holds : HoldsLine s virq k
  free : s.lines[k].busy = false

/-- `m` is the mask register of line `k`'s function, and a plain one (R64). -/
structure PlainMask (e : Env) (s : State) (k : SlotIx) (m : Word) : Prop where
  reg : m = (s.regs e).maskReg s.lines[k].f
  plain : m ∉ (s.regs e).volatileRegs

/-- From `s` to `t` a line command has run: it wrote `v` to the mask register `m` of line `k`, whose state is now `ls`,
and the next command on the line can start. -/
structure MaskRun (e : Env) (r : Nat) (virq : Word) (k : SlotIx) (m v : Word) (ls : LineState) (s t : State) : Prop where
  ready : LineReady t r virq k
  mask : PlainMask e t k m
  word : memWord e.par.glue0 t.mem m = v
  mbits : t.lines[k].mbits = s.lines[k].mbits
  st : t.lines[k].st = ls

/-- A plain register reads as the word it holds (R64). -/
theorem PlainMask.gbValue {e : Env} {s : State} {k : SlotIx} {m : Word} (h : PlainMask e s k m) :
    s.gbValue e m = memWord e.par.glue0 s.mem m :=
  if_neg fun hmem => h.plain (List.contains_iff_mem.1 hmem)

theorem afterBothSteps_line (e : Env) (s : State) (k : SlotIx) (m v : Word) (w : Work) (ls : LineState) :
    (afterBothSteps e s k m v w ls).lines[k] = { s.lines[k] with st := ls, busy := false } := by
  simp [afterBothSteps]

/-- Running both steps leaves the turn, the init bit, the slots and the latch. -/
theorem afterBothSteps_rest (e : Env) (s : State) (k : SlotIx) (m v : Word) (w : Work) (ls : LineState) :
    (afterBothSteps e s k m v w ls).turn = s.turn ∧ (afterBothSteps e s k m v w ls).glueInit = s.glueInit ∧
    (afterBothSteps e s k m v w ls).slots = s.slots ∧
    (afterBothSteps e s k m v w ls).variantLatch = s.variantLatch := by
  simp [afterBothSteps]

section
variable {e : Env} {s : State} {r : Nat} {virq : Word} {k : SlotIx} {m : Word} (h : LineReady s r virq k)
  (hm : PlainMask e s k m)
include h hm

theorem maskRun_afterBothSteps (v : Word) (w : Work) (ls : LineState) :
    MaskRun e r virq k m v ls s (afterBothSteps e s k m v w ls) := by
  obtain ⟨hturn, ⟨p, hp, hidle⟩, hinit, hk, -⟩ := h
  have hheld := inProgress_hold (s := (s.setBusy k).gbRead e m) hturn hp w
  have hport := hheld.respond (u := ((((s.setBusy k).gbRead e m).hold w).gbWrite e m v).setLine k ls false) rfl rfl
    hidle .ok []
  have hline := afterBothSteps_line e s k m v w ls
  obtain ⟨hturn', hinit', hslots, hlatch⟩ := afterBothSteps_rest e s k m v w ls
  have hready : LineReady (afterBothSteps e s k m v w ls) r virq k :=
    ⟨hturn'.trans hturn, ⟨_, hport, hidle⟩, hinit'.trans hinit, by rwa [HoldsLine, hslots], by rw [hline]⟩
  have hmask : PlainMask e (afterBothSteps e s k m v w ls) k m := by
    obtain ⟨hreg, hplain⟩ := hm
    exact ⟨by rwa [State.regs, hlatch, hline], by rwa [State.regs, hlatch]⟩
  exact ⟨hready, hmask, memWord_memPutWord_same .., by rw [hline], by rw [hline]⟩

/-- A line command that reads the mask register, is held as `w`, and at its next step writes `v` there, sets the line and
answers OK, run alone. -/
theorem maskRun_alone {v : Word} {w : Work} {ls : LineState} (hw : ∀ u : State, u.regs e = s.regs e →
      u.lines[k].st = s.lines[k].st → resumeWork e w u = ((u.gbWrite e m v).setLine k ls false).respond .ok []) :
    MaskRun e r virq k m v ls s (alone e r 1 (((s.setBusy k).gbRead e m).hold w)) := by
  obtain ⟨p, hp, -⟩ := h.idle
  have hheld := inProgress_hold (s := (s.setBusy k).gbRead e m) h.turn hp w
  rw [hheld.alone_succ, alone_zero, hw (((s.setBusy k).gbRead e m).hold w) rfl (setBusy_st s k)]
  exact maskRun_afterBothSteps h hm v w ls

/-- MASK run alone (R140). -/
theorem maskRun_mask : MaskRun e r virq k m (memWord e.par.glue0 s.mem m &&& ~~~s.lines[k].mbits)
    s.lines[k].st.afterMask s (alone e r 1 (maskLine e virq s)) := by
  rw [maskLine_of_holds h.init h.holds h.free, ← hm.reg, ← hm.gbValue]
  exact maskRun_alone h hm fun u hregs hst => by rw [hm.reg, ← hregs, ← hst]; rfl

/-- UNMASK of a configured line run alone (R141). -/
theorem maskRun_unmask (hst : s.lines[k].st ≠ .unconfigured) : MaskRun e r virq k m
    (memWord e.par.glue0 s.mem m ||| s.lines[k].mbits) .unmasked s (alone e r 1 (unmaskLine e virq s)) := by
  rw [unmaskLine_of_holds h.init h.holds h.free e hst, ← hm.reg, ← hm.gbValue]
  exact maskRun_alone h hm fun u hregs _ => by rw [hm.reg, ← hregs]; rfl

/-- The second MASK clears bits that are clear already. -/
theorem mask_twice : ∃ m1 m2, m1 = alone e r 1 (maskLine e virq s) ∧ m2 = alone e r 1 (maskLine e virq m1) ∧
    memWord e.par.glue0 m2.mem m = memWord e.par.glue0 m1.mem m ∧
    memWord e.par.glue0 m1.mem m &&& s.lines[k].mbits = 0 ∧
    m2.lines[k].st = if s.lines[k].st = .unconfigured then .unconfigured else .masked := by
  have hfirst := maskRun_mask h hm
  have hsecond := maskRun_mask hfirst.ready hfirst.mask
  refine ⟨_, _, rfl, rfl, ?_, ?_, ?_⟩
  · rw [hsecond.word, hfirst.word, hfirst.mbits, BitVec.and_assoc, BitVec.and_self]
  · rw [hfirst.word, BitVec.and_assoc, BitVec.and_comm (~~~_)]
    simp
  · rw [hsecond.st, hfirst.st]
    cases s.lines[k].st <;> rfl

/-- The second UNMASK sets bits that are set already. -/
theorem unmask_twice (hst : s.lines[k].st ≠ .unconfigured) : ∃ u1 u2, u1 = alone e r 1 (unmaskLine e virq s) ∧
    u2 = alone e r 1 (unmaskLine e virq u1) ∧
    memWord e.par.glue0 u2.mem m = memWord e.par.glue0 u1.mem m ∧
    memWord e.par.glue0 u1.mem m &&& s.lines[k].mbits = s.lines[k].mbits ∧ u2.lines[k].st = .unmasked := by
  have hfirst := maskRun_unmask h hm hst
  have hsecond := maskRun_unmask hfirst.ready hfirst.mask (by rw [hfirst.st]; nofun)
  refine ⟨_, _, rfl, rfl, ?_, ?_, hsecond.st⟩
  · rw [hsecond.word, hfirst.word, hfirst.mbits, BitVec.or_assoc, BitVec.or_self]
  · rw [hfirst.word]
    exact or_and_mask _ _

end

/-- Settles O28: the second command reads what the first one wrote, with the line's bits in the commanded state. -/
theorem maskUnmaskIdempotent : Obligations.MaskUnmaskIdempotent := by
  intro e s r p virq k m hreg hturn hp hidle hinit hk hfree hplain
  have hready : LineReady s r virq k := ⟨hturn, ⟨p, hp, hidle⟩, hinit, hk, hfree⟩
  have hm : PlainMask e s k m := ⟨hreg, hplain⟩
  exact ⟨unmask_twice hready hm, mask_twice hready hm⟩

end Sys2Proof
end

section
/-! PROOFS. O30, O31: ASSIGN and FREEI, their checks in the rule's order and their grants (R160, R161). -/

namespace Sys2Proof

open Sys2Proof.Machine

theorem anyLive_eq_false_iff (s : State) (f : FnId) :
    s.anyLive f = false ↔ ∀ j : SlotIx, s.slots[j] ≠ none → s.lines[j].f ≠ f := by
  rw [Bool.eq_false_iff, ne_eq, anyLive_iff]
  push Not
  rfl

/-! ## ASSIGN (R160): one equation for each way it can end, in the rule's order -/

section
variable {e : Env} {s : State} {fn : BitVec 8} {n g : Word}

theorem assignVectors_notInitialized (hinit : s.glueInit = false) :
    assignVectors e fn n g s = s.raise .notInitialized (opcInfo 0x16) := if_pos hinit

variable (hinit : s.glueInit = true)
include hinit

theorem assignVectors_badFn (hfn : 7 < fn.toNat) : assignVectors e fn n g s = s.raise .badArgument (argInfo fn 0) := by
  simp only [assignVectors, hinit, fnId?_eq_none hfn, Bool.true_eq_false, if_false]

variable {f : FnId} (hfn : fn.toNat = f.val)
include hfn

theorem assignVectors_badCount (hbad : n = 0 ∨ e.par.subfuncCount f < n.toNat) :
    assignVectors e fn n g s = s.raise .badArgument (argInfo fn n) := by
  simp only [assignVectors, hinit, fnId?_eq_some hfn, Bool.true_eq_false, if_false, if_pos hbad]

variable (hcount : ¬ (n = 0 ∨ e.par.subfuncCount f < n.toNat))
include hcount

theorem assignVectors_noDomain (hdom : s.dom[f] ≠ .built) : assignVectors e fn n g s = s.respond .noDomain [] := by
  simp only [assignVectors, hinit, fnId?_eq_some hfn, Bool.true_eq_false, if_false, if_neg hcount, if_pos hdom]

variable (hdom : ¬ s.dom[f] ≠ .built)
include hdom

theorem assignVectors_modeViolation (hused : s.mode[f] ≠ .none ∨ s.anyLive f = true) :
    assignVectors e fn n g s = s.raise .modeViolation (argInfo fn n) := by
  simp only [assignVectors, hinit, fnId?_eq_some hfn, Bool.true_eq_false, if_false, if_neg hcount, if_neg hdom,
    if_pos hused]

variable (hunused : ¬ (s.mode[f] ≠ .none ∨ s.anyLive f = true))
include hunused

theorem assignVectors_grantFailed (hg : g = 0) : assignVectors e fn n g s = s.respond .grantFailed [] := by
  simp only [assignVectors, hinit, fnId?_eq_some hfn, Bool.true_eq_false, if_false, if_neg hcount, if_neg hdom,
    if_neg hunused, if_pos hg]

theorem assignVectors_perSub (hg : g ≠ 0) (hle : n ≤ g) : assignVectors e fn n g s = State.respond
    { s with mode := s.mode.set f (.perSub (Fin.ofNat 32 n.toNat)), grant := s.grant.set f n } .ok [n] := by
  simp only [assignVectors, hinit, fnId?_eq_some hfn, Bool.true_eq_false, if_false, if_neg hcount, if_neg hdom,
    if_neg hunused, if_neg hg, if_pos hle]

theorem assignVectors_broadcast (hg : g ≠ 0) (hlt : ¬ n ≤ g) : assignVectors e fn n g s =
    State.respond { s with mode := s.mode.set f .broadcast, grant := s.grant.set f g } .ok [g] := by
  simp only [assignVectors, hinit, fnId?_eq_some hfn, Bool.true_eq_false, if_false, if_neg hcount, if_neg hdom,
    if_neg hunused, if_neg hg, if_neg hlt]

end

/-- A count that passes ASSIGN's check, in its info word (R224). -/
theorem argInfo_count (fn : BitVec 8) {n : Word} {f : FnId} (hn : n.toNat ≤ Config.params.subfuncCount f) :
    argInfo fn n = (fn.setWidth 32 <<< 24) ||| n :=
  argInfo_of_lt fn n ((hn.trans (subfuncCount_bounds f).2).trans_lt (by decide))

/-- Settles O30: the hypotheses of each clause say which check stops ASSIGN, or that none does. -/
theorem assignRule : Obligations.AssignRule := by
  intro s fn n g
  simp only [exec_assign]
  refine ⟨by rw [encode, header_eq]; simp, fun hinit => congrArg _ (assignVectors_notInitialized hinit),
    fun hinit hfn => by rw [assignVectors_badFn hinit hfn, argInfo_zero], fun f hinit hfn =>
    ⟨fun hbad => by rw [assignVectors_badCount hinit hfn hbad, argInfo_eq], fun hn0 hn => ?_⟩⟩
  have hcount : ¬ (n = 0 ∨ Config.params.subfuncCount f < n.toNat) := not_or.2 ⟨hn0, Nat.not_lt.2 hn⟩
  refine ⟨fun hdom => congrArg _ (assignVectors_noDomain hinit hfn hcount hdom), fun hdom => ?_⟩
  have hbuilt := not_not.2 hdom
  rw [← argInfo_count fn hn, ← anyLive_iff, ← anyLive_eq_false_iff]
  refine ⟨fun hused => congrArg _ (assignVectors_modeViolation hinit hfn hcount hbuilt hused), fun hmode hlive => ?_⟩
  have hunused : ¬ (s.mode[f] ≠ .none ∨ s.anyLive f = true) := not_or.2 ⟨not_not.2 hmode, Bool.eq_false_iff.1 hlive⟩
  have hval : n.toNat < 32 := (hn.trans (subfuncCount_bounds f).2).trans_lt (by decide)
  exact ⟨fun hg => congrArg _ (assignVectors_grantFailed hinit hfn hcount hbuilt hunused hg),
    fun hg hle => ⟨_, Nat.mod_eq_of_lt hval, congrArg _ (assignVectors_perSub hinit hfn hcount hbuilt hunused hg hle)⟩,
    fun hg hlt => congrArg _ (assignVectors_broadcast hinit hfn hcount hbuilt hunused hg (BitVec.not_le.2 hlt))⟩

/-! ## FREEI (R161) -/

section
variable {s : State} {fn : BitVec 8}

theorem freeVectors_notInitialized (hinit : s.glueInit = false) :
    freeVectors fn s = s.raise .notInitialized (opcInfo 0x17) := if_pos hinit

variable (hinit : s.glueInit = true)
include hinit

theorem freeVectors_badFn (hfn : 7 < fn.toNat) : freeVectors fn s = s.raise .badArgument (argInfo fn 0) := by
  simp only [freeVectors, hinit, fnId?_eq_none hfn, Bool.true_eq_false, if_false]

variable {f : FnId} (hfn : fn.toNat = f.val)
include hfn

theorem freeVectors_modeViolation (hlive : s.anyLive f = true) :
    freeVectors fn s = s.raise .modeViolation (argInfo fn 0) := by
  simp only [freeVectors, hinit, fnId?_eq_some hfn, Bool.true_eq_false, if_false, if_pos hlive]

theorem freeVectors_ok (hlive : s.anyLive f = false) : freeVectors fn s =
    State.respond { s with mode := s.mode.set f .none, grant := s.grant.set f 0 } .ok [] := by
  simp only [freeVectors, hinit, fnId?_eq_some hfn, Bool.true_eq_false, if_false, hlive, Bool.false_eq_true]

end

/-- Settles O31: the three checks, then the grant is cleared. -/
theorem freeiRule : Obligations.FreeiRule := by
  intro s fn
  simp only [exec_freei, ← argInfo_zero, ← anyLive_iff, ← anyLive_eq_false_iff]
  exact ⟨by rw [encode, header_eq]; simp, fun hinit => congrArg _ (freeVectors_notInitialized hinit),
    fun hinit hfn => congrArg _ (freeVectors_badFn hinit hfn), fun f hinit hfn =>
    ⟨fun hlive => congrArg _ (freeVectors_modeViolation hinit hfn hlive),
      fun hlive => congrArg _ (freeVectors_ok hinit hfn hlive)⟩⟩

end Sys2Proof
end

section
/-! PROOFS. O21: ALLOC and ALLOCB, their checks in the rule's order and the new line (R89, R125). -/

namespace Sys2Proof

open Sys2Proof.Machine

/-! ## The checks as R125 states them -/

theorem clash_eq_false_iff (s : State) (f : FnId) (sub : SubId) : s.clash f sub = false ↔
    ∀ j : SlotIx, s.slots[j] ≠ none → s.lines[j].f = f →
      s.lines[j].s ≠ sub ∧ s.lines[j].s ≠ bcast ∧ sub ≠ bcast := by
  rw [Bool.eq_false_iff, ne_eq, clash_iff]
  push Not
  exact forall_congr' fun j => ⟨fun h hl hf => h ⟨hl, hf⟩, fun h ⟨hl, hf⟩ => h hl hf⟩

theorem modeForbids_eq_true_iff (m : GrantMode) (sub : SubId) : modeForbids m sub = true ↔
    (∃ n, m = .perSub n ∧ (sub = bcast ∨ n.val ≤ sub.val)) ∨ (m = .broadcast ∧ sub ≠ bcast) := by
  cases m <;> simp [modeForbids]

/-! ## One equation for each way ALLOC can end, in the rule's order -/

section
variable {e : Env} {s : State} {fn sf : BitVec 8} {virq : Word}

theorem allocate_notInitialized (hinit : s.glueInit = false) :
    allocate e fn sf virq s = s.raise .notInitialized (opcInfo 0x10) := if_pos hinit

variable (hinit : s.glueInit = true)
include hinit

theorem allocate_badField (hbad : 7 < fn.toNat ∨ 31 < sf.toNat) :
    allocate e fn sf virq s = s.raise .badArgument (argInfo fn (sf.setWidth 32)) := by
  rw [allocate, if_neg (by simp [hinit])]
  obtain hfn | hsf := hbad
  · rw [fnId?_eq_none hfn]
  · rw [sfId?_eq_none hsf]
    cases fnId? fn <;> rfl

variable {f : FnId} {sub : SubId} (hfn : fn.toNat = f.val) (hsf : sf.toNat = sub.val)
include hfn hsf

theorem allocate_badSub (hbad : sub ≠ bcast ∧ e.par.subfuncCount f ≤ sub.val) :
    allocate e fn sf virq s = s.raise .badArgument (argInfo fn (sf.setWidth 32)) := by
  simp only [allocate, hinit, fnId?_eq_some hfn, sfId?_eq_some hsf, Bool.true_eq_false, if_false, if_pos hbad]

variable (hsub : ¬ (sub ≠ bcast ∧ e.par.subfuncCount f ≤ sub.val))
include hsub

theorem allocate_noDomain (hdom : s.dom[f] ≠ .built) : allocate e fn sf virq s = s.respond .noDomain [] := by
  simp only [allocate, hinit, fnId?_eq_some hfn, sfId?_eq_some hsf, Bool.true_eq_false, if_false, if_neg hsub,
    if_pos hdom]

variable (hdom : ¬ s.dom[f] ≠ .built)
include hdom

theorem allocate_duplicateVirq (hdup : (s.findLine virq).isSome = true) :
    allocate e fn sf virq s = s.raise .duplicateVirq virq := by
  simp only [allocate, hinit, fnId?_eq_some hfn, sfId?_eq_some hsf, Bool.true_eq_false, if_false, if_neg hsub,
    if_neg hdom, if_pos hdup]

variable (hnew : ¬ (s.findLine virq).isSome = true)
include hnew

theorem allocate_hwirqConflict (hclash : s.clash f sub = true) :
    allocate e fn sf virq s = s.raise .hwirqConflict (encHwirq f sub) := by
  simp only [allocate, hinit, fnId?_eq_some hfn, sfId?_eq_some hsf, Bool.true_eq_false, if_false, if_neg hsub,
    if_neg hdom, if_neg hnew, if_pos hclash]

variable (hapart : ¬ s.clash f sub = true)
include hapart

theorem allocate_modeViolation (hmode : modeForbids s.mode[f] sub = true) :
    allocate e fn sf virq s = s.raise .modeViolation (argInfo fn (sf.setWidth 32)) := by
  simp only [allocate, hinit, fnId?_eq_some hfn, sfId?_eq_some hsf, Bool.true_eq_false, if_false, if_neg hsub,
    if_neg hdom, if_neg hnew, if_neg hapart, if_pos hmode]

variable (hmode : ¬ modeForbids s.mode[f] sub = true)
include hmode

theorem allocate_tableFull (hfull : s.firstEmpty = none) :
    allocate e fn sf virq s = s.respond .allocationTableExhausted [] := by
  simp only [allocate, hinit, fnId?_eq_some hfn, sfId?_eq_some hsf, Bool.true_eq_false, if_false, if_neg hsub,
    if_neg hdom, if_neg hnew, if_neg hapart, if_neg hmode, hfull]

theorem allocate_ok {k : SlotIx} (hk : s.firstEmpty = some k) : allocate e fn sf virq s =
    State.respond { s with slots := s.slots.set k (some virq), lines := s.lines.set k (newLine e f sub virq) } .ok
      [BitVec.ofNat 32 k.val] := by
  simp only [allocate, hinit, fnId?_eq_some hfn, sfId?_eq_some hsf, Bool.true_eq_false, if_false, if_neg hsub,
    if_neg hdom, if_neg hnew, if_neg hapart, if_neg hmode, hk, newLine]

end

/-! ## The rule -/

/-- ALLOCB is ALLOC of the sentinel, in its words and in its meaning (R89). -/
theorem alloc_or_allocb {i : Instr} {fn sf : BitVec 8} {virq : Word}
    (hi : i = .alloc fn sf virq ∨ (sf = 0x1F ∧ i = .allocb fn virq)) :
    encode i = [header 0x10 fn sf, virq] ∧ ∀ s, exec i s = .next (allocate Config.env fn sf virq s) := by
  obtain rfl | ⟨rfl, rfl⟩ := hi
  · exact ⟨rfl, fun _ => rfl⟩
  · exact ⟨rfl, fun _ => rfl⟩

/-- Settles O21: the hypotheses of each clause say which check stops ALLOC, or that none does. -/
theorem allocRule : Obligations.AllocRule := by
  intro s i fn sf virq hi
  obtain ⟨hwords, hexec⟩ := alloc_or_allocb hi
  rw [hwords, hexec, header_eq]
  refine ⟨by simp, fun hinit => congrArg _ (allocate_notInitialized hinit),
    fun hinit hbad => by rw [allocate_badField hinit hbad, argInfo_sf], fun f sub hinit hfn hsf =>
    ⟨fun hle hcount => ?_, fun hsub => ?_⟩⟩
  · have hconcrete : sub ≠ bcast := fun h => by rw [h] at hle; exact absurd hle (by decide)
    rw [allocate_badSub hinit hfn hsf ⟨hconcrete, hcount⟩, argInfo_sf]
  have hrange : ¬ (sub ≠ bcast ∧ Config.params.subfuncCount f ≤ sub.val) := fun ⟨hne, hcount⟩ =>
    hsub.elim (fun h => hne (Fin.ext h)) (Nat.not_lt.2 hcount)
  refine ⟨fun hdom => congrArg _ (allocate_noDomain hinit hfn hsf hrange hdom), fun hdom => ?_⟩
  have hbuilt := not_not.2 hdom
  refine ⟨fun hdup => congrArg _ (allocate_duplicateVirq hinit hfn hsf hrange hbuilt
    ((findLine_isSome_iff s virq).2 hdup)), fun hnone => ?_⟩
  have hnew : ¬ (s.findLine virq).isSome = true := by
    rw [(findLine_eq_none_iff s virq).2 hnone]
    nofun
  refine ⟨fun ⟨j, hlive, hf, hs⟩ => congrArg _ (allocate_hwirqConflict hinit hfn hsf hrange hbuilt hnew
    ((clash_iff s f sub).2 ⟨j, ⟨hlive, hf⟩, hs⟩)), fun hnoclash => ?_⟩
  have hapart := Bool.eq_false_iff.1 ((clash_eq_false_iff s f sub).2 hnoclash)
  refine ⟨fun hmode => ?_, fun hadmits => ?_⟩
  · rw [allocate_modeViolation hinit hfn hsf hrange hbuilt hnew hapart ((modeForbids_eq_true_iff _ _).2 hmode),
      argInfo_sf]
  have hmode := Bool.eq_false_iff.1 ((modeForbids_eq_false_iff _ _).2 hadmits)
  exact ⟨fun hfull => congrArg _ (allocate_tableFull hinit hfn hsf hrange hbuilt hnew hapart hmode
      ((firstEmpty_eq_none_iff s).2 hfull)),
    fun k hempty hlow => congrArg _ (allocate_ok hinit hfn hsf hrange hbuilt hnew hapart hmode
      ((firstEmpty_eq_some_iff s k).2 ⟨hempty, hlow⟩))⟩

end Sys2Proof
end

section
/-! PROOFS. O49: the frame of ASSIGN, FREEI and the domain commands (R160, R161, R173–R176). -/

namespace Sys2Proof

open Sys2Proof.Machine

/-- The frame of ASSIGN and FREEI: the mode and the grant of the function FN names. -/
def GrantFrame (fn : BitVec 8) (s t : State) : Prop :=
  t = { s with ports := t.ports, mode := t.mode, grant := t.grant, fltCode := t.fltCode, fltInfo := t.fltInfo,
               fltCount := t.fltCount } ∧
  ∀ f : FnId, f.val ≠ fn.toNat → t.mode[f] = s.mode[f] ∧ t.grant[f] = s.grant[f]

/-- The frame of DBUILDALL: the domains and their parents. -/
def DomainFrame (s t : State) : Prop :=
  t = { s with ports := t.ports, dom := t.dom, domParent := t.domParent, pdLog := t.pdLog, fltCode := t.fltCode,
               fltInfo := t.fltInfo, fltCount := t.fltCount }

/-- The frame of DBUILD: the domain of the function FN names. -/
def OneDomainFrame (fn : BitVec 8) (s t : State) : Prop :=
  DomainFrame s t ∧ ∀ f : FnId, f.val ≠ fn.toNat → t.dom[f] = s.dom[f] ∧ t.domParent[f] = s.domParent[f]

/-! ## ASSIGN and FREEI -/

theorem grantFrame_raise (fn : BitVec 8) (s : State) (f : Status) (info : Word) : GrantFrame fn s (s.raise f info) :=
  ⟨rfl, fun _ _ => ⟨rfl, rfl⟩⟩

/-- One function's mode and grant are written and a response given. -/
theorem grantFrame_respond {fn : BitVec 8} {f : FnId} (hf : fnId? fn = some f) (s : State) (m : GrantMode) (g : Word)
    (st : Status) (rs : List Word) :
    GrantFrame fn s (State.respond { s with mode := s.mode.set f m, grant := s.grant.set f g } st rs) := by
  refine ⟨rfl, fun f' hf' => ?_⟩
  have hne : f' ≠ f := fun h => hf' (h ▸ fnId?_val hf)
  simp only [State.respond_mode, State.respond_grant, getElem_set_fin, if_neg hne, and_self]

theorem grantFrame_assignVectors (e : Env) (fn : BitVec 8) (n g : Word) (s : State) :
    GrantFrame fn s (assignVectors e fn n g s) := by
  obtain ⟨_, _, -, hc⟩ | ⟨_, -, hc⟩ | ⟨f, -, hf, -, -, -, -, -, -, ⟨-, hc⟩ | ⟨-, hc⟩⟩ :=
    assignVectors_cases e fn n g s <;> rw [hc]
  · exact grantFrame_raise fn s _ _
  · exact ⟨rfl, fun _ _ => ⟨rfl, rfl⟩⟩
  · exact grantFrame_respond hf s _ _ _ _
  · exact grantFrame_respond hf s _ _ _ _

theorem grantFrame_freeVectors (fn : BitVec 8) (s : State) : GrantFrame fn s (freeVectors fn s) := by
  obtain ⟨_, _, -, hc⟩ | ⟨f, -, hf, -, hc⟩ := freeVectors_cases fn s <;> rw [hc]
  · exact grantFrame_raise fn s _ _
  · exact grantFrame_respond hf s _ _ _ _

/-! ## The domain commands -/

theorem DomainFrame.trans {s t u : State} (h : DomainFrame s t) (h' : DomainFrame t u) : DomainFrame s u := by
  unfold DomainFrame at *
  rw [h', h]

theorem domainFrame_respond (s : State) (st : Status) (rs : List Word) : DomainFrame s (s.respond st rs) := rfl

theorem domainFrame_buildDomain (e : Env) (p : Parent) (bad : DomStatus) (f : FnId) (s : State) :
    DomainFrame s (buildDomain e p bad f s) := by
  obtain ⟨-, hc⟩ | ⟨-, hc⟩ := buildDomain_cases e p bad f s <;> rw [hc] <;> rfl

theorem domainFrame_foldl_buildDomain (e : Env) (p : Parent) (bad : DomStatus) (fs : List FnId) (s : State) :
    DomainFrame s (fs.foldl (fun t f => buildDomain e p bad f t) s) := by
  induction fs generalizing s with
  | nil => rfl
  | cons f fs ih => exact (domainFrame_buildDomain e p bad f s).trans (ih _)

/-- The lookup of the parent, then the primary's domain. -/
theorem domainFrame_buildDomain_askRemap (e : Env) (p : Parent) (bad : DomStatus) (f : FnId) (s : State) :
    DomainFrame s (buildDomain e p bad f (askRemap e s)) :=
  DomainFrame.trans (t := askRemap e s) rfl (domainFrame_buildDomain e p bad f _)

/-- The attempt to build the domain FN names, and its response. -/
theorem oneDomainFrame_respond {fn : BitVec 8} {f : FnId} (hf : fnId? fn = some f) {s t : State}
    (hframe : DomainFrame s t)
    (hother : ∀ f' : FnId, f' ≠ f → t.dom[f'] = s.dom[f'] ∧ t.domParent[f'] = s.domParent[f'])
    (st : Status) (rs : List Word) : OneDomainFrame fn s (t.respond st rs) :=
  ⟨hframe.trans (domainFrame_respond t st rs), fun f' hf' => hother f' fun h => hf' (h ▸ fnId?_val hf)⟩

theorem oneDomainFrame_buildOne (e : Env) (fn : BitVec 8) (s : State) : OneDomainFrame fn s (buildOne e fn s) := by
  obtain ⟨_, _, -, hc⟩ | hc | ⟨f, -, hf, -, -, hc⟩ | ⟨f, -, hf, -, -, -, hc⟩ := buildOne_cases e fn s <;> rw [hc]
  · exact ⟨rfl, fun _ _ => ⟨rfl, rfl⟩⟩
  · exact ⟨rfl, fun _ _ => ⟨rfl, rfl⟩⟩
  · exact oneDomainFrame_respond hf (domainFrame_buildDomain_askRemap e _ _ f s)
      (fun _ hne => buildDomain_other e _ _ (askRemap e s) hne) _ _
  · exact oneDomainFrame_respond hf (domainFrame_buildDomain e _ _ f s)
      (fun _ hne => buildDomain_other e _ _ s hne) _ _

theorem domainFrame_buildAll (e : Env) (s : State) : DomainFrame s (buildAll e s) := by
  have hprimary := domainFrame_buildDomain_askRemap e (drawnParent e s) .unbuilt e.par.primary s
  obtain ⟨_, _, -, hc⟩ | ⟨-, -, -, hc⟩ | ⟨-, -, -, hc⟩ := buildAll_cases e s <;> rw [hc]
  · rfl
  · exact hprimary.trans (domainFrame_respond _ _ _)
  · exact (hprimary.trans (domainFrame_foldl_buildDomain e _ _ _ _)).trans (domainFrame_respond _ _ _)

theorem tearDown_frame (e : Env) (s t : State) (ht : tearDown e s = t) :
    t = { s with ports := t.ports, dom := t.dom, domParent := t.domParent, mode := t.mode, grant := t.grant,
                 pdLog := t.pdLog, fltCode := t.fltCode, fltInfo := t.fltInfo, fltCount := t.fltCount } := by
  obtain ⟨_, _, -, hc⟩ | ⟨-, -, hc⟩ := tearDown_cases e s <;> rw [← ht, hc] <;> rfl

theorem queryLookup_frame (fn sf : BitVec 8) (s t : State) (ht : queryLookup fn sf s = t) :
    t = { s with ports := t.ports, fltCode := t.fltCode, fltInfo := t.fltInfo, fltCount := t.fltCount } := by
  obtain ⟨_, _, -, hc⟩ | ⟨_, _, -, -, -, ⟨-, hc⟩ | ⟨_, -, hc⟩⟩ := queryLookup_cases fn sf s <;> rw [← ht, hc] <;> rfl

/-- Settles O49: each command's frame. -/
theorem grantDomainFrame : Obligations.GrantDomainFrame := by
  intro s t fn sf n g
  refine ⟨fun h => ?_, fun h => ?_, fun h => ?_, fun h => tearDown_frame _ s t (Host.Outcome.next.inj h),
    fun h => queryLookup_frame fn sf s t (Host.Outcome.next.inj h)⟩
  · obtain h | h := h <;> obtain rfl := Host.Outcome.next.inj h
    · exact grantFrame_assignVectors _ fn n g s
    · exact grantFrame_freeVectors fn s
  · obtain rfl := Host.Outcome.next.inj h
    exact oneDomainFrame_buildOne _ fn s
  · obtain rfl := Host.Outcome.next.inj h
    exact domainFrame_buildAll _ s

end Sys2Proof
end

section
/-! PROOFS. O32–O35: DBUILD, DBUILDALL, DTEAR and DLOOKUP, their checks in the rule's order and their effects
(R170–R176). -/

namespace Sys2Proof

open Sys2Proof.Machine

/-! ## One attempt to build a domain (R173, R174) -/

/-- A domain that is Unbuilt stays as it is when it is marked Unbuilt. -/
theorem set_unbuilt_of_unbuilt {s : State} {f : FnId} (hdom : s.dom[f] = .unbuilt) : s.dom.set f .unbuilt = s.dom := by
  rw [← hdom]
  exact Vector.set_getElem_self ..

/-- The attempt and its response, by the draw. -/
theorem respond_buildDomain (e : Env) (p : Parent) (bad : DomStatus) (f : FnId) (s : State) (st : Status) :
    (buildDomain e p bad f s).respond (if e.createOk s.tick f then .ok else st) [] =
      if e.createOk s.tick f then
        State.respond { s with
          dom := s.dom.set f .built, domParent := s.domParent.set f p,
          pdLog := s.pdLog ++ [.createDomain p f (domBase f)] } .ok []
      else State.respond { s with
        dom := s.dom.set f bad, pdLog := s.pdLog ++ [.createDomain p f (domBase f)] } st [] := by
  obtain ⟨hok, hc⟩ | ⟨hok, hc⟩ := buildDomain_cases e p bad f s <;> rw [hc, hok] <;> rfl

/-- The primary's attempt asks for the parent first, and a failed one changes no domain. -/
theorem respond_buildDomain_askRemap (e : Env) (p : Parent) {f : FnId} {s : State} (hdom : s.dom[f] = .unbuilt)
    (st : Status) :
    (buildDomain e p .unbuilt f (askRemap e s)).respond (if e.createOk s.tick f then .ok else st) [] =
      if e.createOk s.tick f then
        State.respond { s with
          dom := s.dom.set f .built, domParent := s.domParent.set f p,
          pdLog := s.pdLog ++ [.remapLookup e.par.platformId, .createDomain p f (domBase f)] } .ok []
      else State.respond { s with
        pdLog := s.pdLog ++ [.remapLookup e.par.platformId, .createDomain p f (domBase f)] } st [] := by
  refine (respond_buildDomain e p .unbuilt f (askRemap e s) st).trans ?_
  simp only [askRemap, set_unbuilt_of_unbuilt hdom, List.append_assoc, List.cons_append, List.nil_append]

/-! ## DBUILD (R173): one equation for each way it can end, in the rule's order -/

section
variable {e : Env} {s : State} {fn : BitVec 8}

theorem buildOne_notInitialized (hinit : s.glueInit = false) :
    buildOne e fn s = s.raise .notInitialized (opcInfo 0x20) := if_pos hinit

variable (hinit : s.glueInit = true)
include hinit

theorem buildOne_badFn (hfn : 7 < fn.toNat) : buildOne e fn s = s.raise .badArgument (argInfo fn 0) := by
  simp only [buildOne, hinit, fnId?_eq_none hfn, Bool.true_eq_false, if_false]

variable {f : FnId} (hfn : fn.toNat = f.val)
include hfn

theorem buildOne_begun (hdom : s.dom[f] ≠ .unbuilt) :
    buildOne e fn s = s.raise .controlState (controlInfo 0x20 f) := by
  simp only [buildOne, hinit, fnId?_eq_some hfn, Bool.true_eq_false, if_false, if_pos hdom]

variable (hdom : s.dom[f] = .unbuilt)
include hdom

/-- The primary's attempt, under the parent drawn. -/
theorem buildOne_primary (hprimary : f = e.par.primary) : buildOne e fn s =
    (buildDomain e (drawnParent e s) .unbuilt f (askRemap e s)).respond
      (if e.createOk s.tick f then .ok else .domainCreationFailed) [] := by
  simp only [buildOne, hinit, fnId?_eq_some hfn, Bool.true_eq_false, if_false, if_neg (not_not.2 hdom),
    if_pos hprimary]

variable (hsecondary : f ≠ e.par.primary)
include hsecondary

theorem buildOne_domainOrder (hbuilt : s.dom[e.par.primary] ≠ .built) :
    buildOne e fn s = s.respond .domainOrder [] := by
  simp only [buildOne, hinit, fnId?_eq_some hfn, Bool.true_eq_false, if_false, if_neg (not_not.2 hdom),
    if_neg hsecondary, if_pos hbuilt]

/-- A secondary's attempt, under the primary's parent. -/
theorem buildOne_secondary (hbuilt : s.dom[e.par.primary] = .built) : buildOne e fn s =
    (buildDomain e s.domParent[e.par.primary] .failed f s).respond
      (if e.createOk s.tick f then .ok else .secondaryDomainFailed) [] := by
  simp only [buildOne, hinit, fnId?_eq_some hfn, Bool.true_eq_false, if_false, if_neg (not_not.2 hdom),
    if_neg hsecondary, if_neg (not_not.2 hbuilt)]

end

/-- Settles O32: the hypotheses of each clause say which check stops DBUILD, or whose domain it attempts. -/
theorem dbuildRule : Obligations.DbuildRule := by
  intro s fn
  simp only [exec_dbuild]
  refine ⟨by rw [encode, header_eq]; simp, fun hinit => congrArg _ (buildOne_notInitialized hinit),
    fun hinit hfn => by rw [buildOne_badFn hinit hfn, argInfo_zero], ?_⟩
  rintro f _ rfl hinit hfn
  exact ⟨fun hdom => congrArg _ (buildOne_begun hinit hfn hdom),
    fun hdom hne hbuilt => congrArg _ (buildOne_domainOrder hinit hfn hdom hne hbuilt),
    fun hdom hprimary => ⟨_, _, rfl, rfl, congrArg _
      ((buildOne_primary hinit hfn hdom hprimary).trans (respond_buildDomain_askRemap _ _ hdom _))⟩,
    fun hdom hne hbuilt => ⟨_, _, rfl, rfl, congrArg _
      ((buildOne_secondary hinit hfn hdom hne hbuilt).trans (respond_buildDomain ..))⟩⟩

/-! ## The attempts of DBUILDALL (R174) -/

/-- Only the domains, their parents and the record of `PD` requests differ. -/
def BuildFrame (s t : State) : Prop := t = { s with dom := t.dom, domParent := t.domParent, pdLog := t.pdLog }

theorem BuildFrame.trans {s t u : State} (h : BuildFrame s t) (h' : BuildFrame t u) : BuildFrame s u := by
  unfold BuildFrame at *
  rw [h', h]

theorem BuildFrame.tick {s t : State} (h : BuildFrame s t) : t.tick = s.tick := by rw [h]

/-- The response after the attempts is given on the port it would be given on before them. -/
theorem BuildFrame.respond {s t : State} (h : BuildFrame s t) (st : Status) (rs : List Word) :
    t.respond st rs =
      { s with dom := t.dom, domParent := t.domParent, pdLog := t.pdLog, ports := (s.respond st rs).ports } := by
  rw [h]
  rfl

theorem buildFrame_askRemap (e : Env) (s : State) : BuildFrame s (askRemap e s) := rfl

section
variable (e : Env) (p : Parent) (bad : DomStatus)

theorem buildFrame_buildDomain (f : FnId) (s : State) : BuildFrame s (buildDomain e p bad f s) := by
  obtain ⟨-, hc⟩ | ⟨-, hc⟩ := buildDomain_cases e p bad f s <;> rw [hc] <;> rfl

theorem buildFrame_foldl_buildDomain (fs : List FnId) (s : State) :
    BuildFrame s (fs.foldl (fun t f => buildDomain e p bad f t) s) := by
  induction fs generalizing s with
  | nil => rfl
  | cons f fs ih => exact (buildFrame_buildDomain e p bad f s).trans (ih _)

/-- The statuses after one attempt. -/
theorem buildDomain_dom (f f' : FnId) (s : State) : (buildDomain e p bad f s).dom[f'] =
    if f' = f then (if e.createOk s.tick f' then .built else bad) else s.dom[f'] := by
  split
  · next h =>
    subst h
    obtain ⟨hok, hc⟩ | ⟨hok, hc⟩ := buildDomain_cases e p bad f' s <;> rw [hc, hok] <;> simp
  · next h => exact (buildDomain_other e p bad s h).1

/-- The parents after one attempt. -/
theorem buildDomain_domParent (f f' : FnId) (s : State) : (buildDomain e p bad f s).domParent[f'] =
    if f' = f ∧ e.createOk s.tick f' = true then p else s.domParent[f'] := by
  by_cases h : f' = f
  · subst h
    obtain ⟨hok, hc⟩ | ⟨hok, hc⟩ := buildDomain_cases e p bad f' s <;> rw [hc, hok] <;> simp
  · rw [(buildDomain_other e p bad s h).2, if_neg fun h' => h h'.1]

/-- The statuses after the attempts one after the other, all by the draws of one step. -/
theorem foldl_buildDomain_dom (fs : List FnId) (f' : FnId) (s : State) :
    (fs.foldl (fun t f => buildDomain e p bad f t) s).dom[f'] =
      if f' ∈ fs then (if e.createOk s.tick f' then .built else bad) else s.dom[f'] := by
  induction fs generalizing s with
  | nil => simp
  | cons f fs ih =>
    rw [List.foldl_cons, ih, (buildFrame_buildDomain e p bad f s).tick, buildDomain_dom]
    by_cases hmem : f' ∈ fs <;> simp [hmem]

/-- The parents after the attempts one after the other. -/
theorem foldl_buildDomain_domParent (fs : List FnId) (f' : FnId) (s : State) :
    (fs.foldl (fun t f => buildDomain e p bad f t) s).domParent[f'] =
      if f' ∈ fs ∧ e.createOk s.tick f' = true then p else s.domParent[f'] := by
  induction fs generalizing s with
  | nil => simp
  | cons f fs ih =>
    rw [List.foldl_cons, ih, (buildFrame_buildDomain e p bad f s).tick, buildDomain_domParent]
    by_cases hmem : f' ∈ fs
    · by_cases hok : e.createOk s.tick f' = true <;> simp [hmem, hok]
    · simp [hmem]

end

theorem mem_secondaries (e : Env) (f : FnId) : f ∈ secondaries e ↔ f ≠ e.par.primary := by
  simp [secondaries]

/-! ## The mask of the failed functions (R174) -/

/-- A failed function's bit is added, a built one's is not. -/
theorem getLsbD_foldl_failMask (e : Env) (n : Nat) (fs : List FnId) (m : Word) (i : Nat) :
    (fs.foldl (fun m f => if e.createOk n f then m else m ||| 1#32 <<< f.val) m).getLsbD i = true ↔
      m.getLsbD i = true ∨ ∃ f ∈ fs, e.createOk n f = false ∧ f.val = i := by
  induction fs generalizing m with
  | nil => simp
  | cons f fs ih =>
    rw [List.foldl_cons, ih]
    by_cases hok : e.createOk n f = true
    · simp [hok]
    · have hf : f.val < 32 := f.isLt.trans (by decide)
      have hbit : (1#32 <<< f.val).getLsbD i = true ↔ f.val = i := by
        rw [← BitVec.twoPow_eq, BitVec.getLsbD_twoPow]
        simp [hf]
      simp [hok, hbit, or_assoc, -BitVec.getLsbD_shiftLeft]

theorem getLsbD_failMask (e : Env) (n : Nat) (fs : List FnId) (i : Nat) :
    (failMask e n fs).getLsbD i = true ↔ ∃ f ∈ fs, e.createOk n f = false ∧ f.val = i := by
  rw [failMask, getLsbD_foldl_failMask]
  simp

/-- The bit of each function, when the primary's domain is built. -/
theorem getLsbD_failMask_secondaries {e : Env} {n : Nat} (hprimary : e.createOk n e.par.primary = true) (f : FnId) :
    (failMask e n (secondaries e)).getLsbD f.val = !e.createOk n f := by
  rw [Bool.eq_iff_iff, getLsbD_failMask, Bool.not_eq_true']
  constructor
  · rintro ⟨f', -, hfail, hf'⟩
    rwa [Fin.ext hf'] at hfail
  · intro hfail
    have hne : f ≠ e.par.primary := fun h => by rw [h, hprimary] at hfail; cases hfail
    exact ⟨f, (mem_secondaries e f).2 hne, hfail, rfl⟩

/-- No bit above the functions is set. -/
theorem getLsbD_failMask_high (e : Env) (n : Nat) (fs : List FnId) {i : Nat} (hi : 8 ≤ i) :
    (failMask e n fs).getLsbD i = false := by
  rw [Bool.eq_false_iff, ne_eq, getLsbD_failMask]
  rintro ⟨f, -, -, rfl⟩
  exact absurd f.isLt (Nat.not_lt.2 hi)

/-! ## DBUILDALL (R174) -/

/-- The state after the attempt to build the primary's domain. -/
def afterPrimary (e : Env) (s : State) : State :=
  buildDomain e (drawnParent e s) .unbuilt e.par.primary (askRemap e s)

/-- The state after the attempts to build the other seven. -/
def afterAll (e : Env) (s : State) : State :=
  (secondaries e).foldl (fun t f => buildDomain e (drawnParent e s) .failed f t) (afterPrimary e s)

section
variable {e : Env} {s : State}

theorem buildFrame_afterPrimary : BuildFrame s (afterPrimary e s) :=
  (buildFrame_askRemap e s).trans (buildFrame_buildDomain ..)

theorem buildFrame_afterAll : BuildFrame s (afterAll e s) :=
  buildFrame_afterPrimary.trans (buildFrame_foldl_buildDomain ..)

/-- A failed primary changes no domain. -/
theorem afterPrimary_of_failed (hdom : s.dom[e.par.primary] = .unbuilt)
    (hfail : ¬ e.createOk s.tick e.par.primary = true) :
    (afterPrimary e s).dom = s.dom ∧ (afterPrimary e s).domParent = s.domParent := by
  rw [afterPrimary, buildDomain, if_neg (show ¬ e.createOk (askRemap e s).tick e.par.primary = true from hfail)]
  exact ⟨set_unbuilt_of_unbuilt hdom, rfl⟩

/-- Each domain's status once the primary's creation has succeeded. -/
theorem afterAll_dom (hprimary : e.createOk s.tick e.par.primary = true) (f : FnId) :
    (afterAll e s).dom[f] = if e.createOk s.tick f then .built else .failed := by
  rw [afterAll, foldl_buildDomain_dom, buildFrame_afterPrimary.tick]
  simp only [mem_secondaries]
  split
  · rfl
  · next hf =>
    rw [not_not.1 hf, hprimary]
    exact (buildDomain_self (s := askRemap e s) _ _ hprimary).1

/-- Each domain's parent once the primary's creation has succeeded. -/
theorem afterAll_domParent (hprimary : e.createOk s.tick e.par.primary = true) (f : FnId) :
    (afterAll e s).domParent[f] = if e.createOk s.tick f then drawnParent e s else s.domParent[f] := by
  rw [afterAll, foldl_buildDomain_domParent, buildFrame_afterPrimary.tick]
  simp only [mem_secondaries]
  by_cases hf : f = e.par.primary
  · rw [if_neg fun h => h.1 hf, hf, hprimary]
    exact (buildDomain_self (s := askRemap e s) _ _ hprimary).2
  · have hother : (afterPrimary e s).domParent[f] = s.domParent[f] := (buildDomain_other e _ _ (askRemap e s) hf).2
    simp only [hother, ne_eq, hf, not_false_eq_true, true_and]

theorem buildAll_notInitialized (hinit : s.glueInit = false) :
    buildAll e s = s.raise .notInitialized (opcInfo 0x21) := if_pos hinit

variable (hinit : s.glueInit = true)
include hinit

theorem buildAll_begun {f : FnId} (hf : s.firstBegun = some f) :
    buildAll e s = s.raise .controlState (controlInfo 0x21 f) := by
  simp only [buildAll, hinit, Bool.true_eq_false, if_false, hf]

variable (hnone : s.firstBegun = none)
include hnone

theorem buildAll_ok (hprimary : e.createOk s.tick e.par.primary = true) :
    buildAll e s = (afterAll e s).respond .ok [failMask e s.tick (secondaries e)] := by
  simp only [buildAll, hinit, Bool.true_eq_false, if_false, hnone, if_pos hprimary, afterAll, afterPrimary]

theorem buildAll_primaryFailed (hfail : ¬ e.createOk s.tick e.par.primary = true) :
    buildAll e s = (afterPrimary e s).respond .domainCreationFailed [] := by
  simp only [buildAll, hinit, Bool.true_eq_false, if_false, hnone, if_neg hfail, afterPrimary]

end

/-- Settles O33: the lowest begun function is the search's, and the attempts are all by the draws of this step. -/
theorem dbuildallRule : Obligations.DbuildallRule := by
  intro s
  simp only [exec_dbuildall]
  refine ⟨by decide, fun hinit => congrArg _ (buildAll_notInitialized hinit),
    fun f hinit hdom hlow => congrArg _ (buildAll_begun hinit ((firstBegun_eq_some_iff s f).2 ⟨hdom, hlow⟩)),
    fun hinit hunbuilt => ?_⟩
  have hnone := (firstBegun_eq_none_iff s).2 hunbuilt
  refine ⟨_, rfl, ?_⟩
  by_cases hprimary : Config.createOk s.tick Config.params.primary = true
  · rw [if_pos hprimary, buildAll_ok hinit hnone hprimary, buildFrame_afterAll.respond]
    exact ⟨rfl, afterAll_dom hprimary, afterAll_domParent hprimary, _, rfl, getLsbD_failMask_secondaries hprimary,
      fun _ => getLsbD_failMask_high _ _ _⟩
  · rw [if_neg hprimary, buildAll_primaryFailed hinit hnone hprimary, buildFrame_afterPrimary.respond]
    obtain ⟨hdom, hparent⟩ := afterPrimary_of_failed (e := Config.env) (hunbuilt _) hprimary
    exact ⟨rfl, hdom, hparent, rfl⟩

/-! ## DTEAR (R175) -/

section
variable {e : Env} {s : State}

theorem tearDown_notInitialized (hinit : s.glueInit = false) :
    tearDown e s = s.raise .notInitialized (opcInfo 0x22) := if_pos hinit

theorem tearDown_live (hinit : s.glueInit = true) (hlive : ∃ i : SlotIx, s.slots[i] ≠ none) :
    tearDown e s = s.raise .controlState (controlInfo 0x22 0) := by
  have hany : (List.finRange 100).any (fun i => s.liveSlot i) = true := by
    simpa only [List.any_eq_true, List.mem_finRange, true_and, liveSlot_iff] using hlive
  rw [tearDown, if_neg (by simp [hinit]), if_pos hany]

theorem tearDown_ok (hinit : s.glueInit = true) (hempty : ∀ i : SlotIx, s.slots[i] = none) : tearDown e s =
    State.respond
      { s with
        dom := Vector.replicate 8 .unbuilt
        domParent := Vector.replicate 8 .none
        mode := Vector.replicate 8 .none
        grant := Vector.replicate 8 0
        pdLog := s.pdLog ++
          (((teardownOrder e).filter fun f => decide (s.dom[f] = .built)).map .destroyDomain) }
      .ok [] := by
  have hany : ¬ (List.finRange 100).any (fun i => s.liveSlot i) = true := by
    simpa only [List.any_eq_true, List.mem_finRange, true_and, liveSlot_iff, not_exists, not_not] using hempty
  rw [tearDown, if_neg (by simp [hinit]), if_neg hany]

end

/-- Settles O34: past the two checks every element of the four vectors is the one of the reset state. -/
theorem dtearRule : Obligations.DtearRule := by
  intro s
  simp only [exec_dtear]
  refine ⟨by decide, fun hinit => congrArg _ (tearDown_notInitialized hinit),
    fun hinit hlive => congrArg _ (tearDown_live hinit hlive), fun hinit hempty => ?_⟩
  rw [tearDown_ok hinit hempty]
  exact ⟨_, rfl, rfl, fun f => by simp⟩

/-! ## DLOOKUP (R170, R176) -/

/-- The lookup of (f, sub) finds nothing iff the domain is not Built or no live line is that of (f, sub). -/
theorem lookup_encHwirq_eq_none_iff (s : State) (f : FnId) (sub : SubId) :
    s.lookup f (encHwirq f sub) = none ↔ s.dom[f] ≠ .built ∨
      ∀ i : SlotIx, s.slots[i] ≠ none → ¬ (s.lines[i].f = f ∧ s.lines[i].s = sub) := by
  rw [lookup_eq_none_iff]
  refine or_congr_right (forall₂_congr fun i _ => ?_)
  exact ⟨fun h ⟨hf, hs⟩ => h hf (by rw [hf, hs]), fun h _ hh => h (encHwirq_inj hh)⟩

/-- The lookup of (f, sub) finds the one live line of (f, sub). -/
theorem lookup_of_unique {s : State} {f : FnId} {sub : SubId} {i : SlotIx} (hdom : s.dom[f] = .built)
    (hlive : s.slots[i] ≠ none) (hf : s.lines[i].f = f) (hs : s.lines[i].s = sub)
    (hunique : ∀ j : SlotIx, s.slots[j] ≠ none → s.lines[j].f = f → s.lines[j].s = sub → j = i) :
    s.lookup f (encHwirq f sub) = some s.lines[i].virq := by
  have hfound : s.lookup f (encHwirq f sub) ≠ none := by
    rw [ne_eq, lookup_encHwirq_eq_none_iff]
    exact fun h => h.elim (fun h => h hdom) fun h => h i hlive ⟨hf, hs⟩
  obtain ⟨v, hv⟩ := Option.ne_none_iff_exists'.1 hfound
  obtain ⟨-, j, hjlive, hjf, hjh, hjv⟩ := lookup_eq_some hv
  rw [hv, ← hjv, hunique j hjlive hjf (encHwirq_inj hjh).2]

section
variable {s : State} {fn sf : BitVec 8}

theorem queryLookup_notInitialized (hinit : s.glueInit = false) :
    queryLookup fn sf s = s.raise .notInitialized (opcInfo 0x23) := if_pos hinit

variable (hinit : s.glueInit = true)
include hinit

theorem queryLookup_badField (hbad : 7 < fn.toNat ∨ 31 < sf.toNat) :
    queryLookup fn sf s = s.raise .badArgument (argInfo fn (sf.setWidth 32)) := by
  rw [queryLookup, if_neg (by simp [hinit])]
  obtain hfn | hsf := hbad
  · rw [fnId?_eq_none hfn]
  · rw [sfId?_eq_none hsf]
    cases fnId? fn <;> rfl

variable {f : FnId} {sub : SubId} (hfn : fn.toNat = f.val) (hsf : sf.toNat = sub.val)
include hfn hsf

theorem queryLookup_notFound (hnone : s.lookup f (encHwirq f sub) = none) :
    queryLookup fn sf s = s.respond .ok [0, 0] := by
  simp only [queryLookup, hinit, fnId?_eq_some hfn, sfId?_eq_some hsf, Bool.true_eq_false, if_false, hnone]

theorem queryLookup_found {v : Word} (hv : s.lookup f (encHwirq f sub) = some v) :
    queryLookup fn sf s = s.respond .ok [1, v] := by
  simp only [queryLookup, hinit, fnId?_eq_some hfn, sfId?_eq_some hsf, Bool.true_eq_false, if_false, hv]

end

/-- Settles O35: `lookup` finds the one live line of (f, s), since a hwirq encodes one pair only. -/
theorem dlookupRule : Obligations.DlookupRule := by
  intro s fn sf
  simp only [exec_dlookup]
  exact ⟨by rw [encode, header_eq]; simp, fun hinit => congrArg _ (queryLookup_notInitialized hinit),
    fun hinit hbad => by rw [queryLookup_badField hinit hbad, argInfo_sf], fun f sub hinit hfn hsf =>
    ⟨fun hnone => congrArg _ (queryLookup_notFound hinit hfn hsf ((lookup_encHwirq_eq_none_iff s f sub).2 hnone)),
      fun i hdom hlive hf hs hunique => congrArg _
        (queryLookup_found hinit hfn hsf (lookup_of_unique hdom hlive hf hs hunique))⟩⟩

end Sys2Proof
end

section
/-! PROOFS. O12, O38, O40, O41, O50: the pending bits, an edge event, the steps of a dispatching demux agent and of the
default agent, and the frame of glue control and EDGE (R190–R201, R210–R213). -/

namespace Sys2Proof

open Sys2Proof.Machine

/-- Settles O12: bit i of the shifted ack value, complemented, under the mask. -/
theorem pendingBits : Obligations.PendingBits := fun a m sh _ hi => getLsbD_computePending a m sh hi

/-! ## The edge event (R192, R193) -/

/-- A group's function names that group alone, since the three functions are distinct (R8). -/
theorem groupOf_eq_some_iff (f : FnId) (g : Group) :
    groupOf Config.params f = some g ↔ f = Config.params.funcOf g := by
  constructor
  · intro h
    unfold groupOf at h
    split_ifs at h with hglue husb hdma <;> obtain rfl := Option.some.inj h <;> assumption
  · rintro rfl
    cases g <;> simp [groupOf, funcOf_injective.eq_iff]

theorem groupOf_eq_none_iff (f : FnId) :
    groupOf Config.params f = none ↔ ∀ g : Group, f ≠ Config.params.funcOf g := by
  simp only [Option.eq_none_iff_forall_ne_some, ne_eq, groupOf_eq_some_iff]

theorem acceptEdge_invalid {e : Env} {h : Word} {s : State} (hdec : decHwirq h = none) :
    acceptEdge e h s = { s with diagSpurious := s.diagSpurious + 1 } := by rw [acceptEdge, hdec]

section
variable {s : State} {h : Word} {f : FnId} {l : SubId} (hdec : decHwirq h = some (f, l))
include hdec

theorem acceptEdge_group {g : Group} (hinit : s.glueInit = true) (hB : s.variantLatch = .B)
    (hf : f = Config.params.funcOf g) :
    acceptEdge Config.env h s = { s with ependG := s.ependG.set g true } := by
  have hgroup : groupOf Config.env.par f = some g := (groupOf_eq_some_iff f g).2 hf
  simp only [acceptEdge, hdec, routeEdge, hinit, hB, and_self, if_true, hgroup]

theorem acceptEdge_default
    (hdefault : s.glueInit = false ∨ s.variantLatch = .A ∨ ∀ g : Group, f ≠ Config.params.funcOf g) :
    acceptEdge Config.env h s = { s with ependH := setInsert h s.ependH } := by
  obtain ⟨hnone, -⟩ | ⟨f', l', g, hdec', hinit, hB, hgroup, -⟩ | ⟨-, -, -, -, hc⟩ := acceptEdge_cases Config.env h s
  · cases hdec.symm.trans hnone
  · cases hdec.symm.trans hdec'
    obtain hinit' | hA | hother := hdefault
    · cases hinit.symm.trans hinit'
    · cases hB.symm.trans hA
    · exact absurd ((groupOf_eq_some_iff f g).1 hgroup) (hother g)
  · exact hc

end

/-- Settles O38: one equation for each way an event can go. -/
theorem edgeRule : Obligations.EdgeRule := fun _ _ =>
  ⟨fun hdec => congrArg _ (acceptEdge_invalid hdec), fun _ _ hdec =>
    ⟨fun _ hinit hB hf => congrArg _ (acceptEdge_group hdec hinit hB hf),
      fun hdefault => ⟨_, congrArg _ (acceptEdge_default hdec hdefault), fun x => mem_setInsert _ x _⟩⟩⟩

/-! ## One pending bit of a group (R197, R198, R201) -/

/-- The word with one bit cleared. -/
theorem getLsbD_clearBit (w : Word) (i : Nat) {j : Nat} (hj : j < 32) :
    (w &&& ~~~(1#32 <<< i)).getLsbD j = (w.getLsbD j && decide (j ≠ i)) := by
  have hbit : (1#32 <<< i).getLsbD j = decide (j = i) := by
    rw [BitVec.getLsbD_shiftLeft, BitVec.getLsbD_one, Bool.eq_iff_iff]
    simp only [Bool.and_eq_true, Bool.not_eq_true', decide_eq_true_eq, decide_eq_false_iff_not]
    omega
  rw [BitVec.getLsbD_and, BitVec.getLsbD_not, hbit, decide_eq_true hj, Bool.true_and, decide_not]

/-- Clearing a bit takes its position out of the set bits. -/
theorem setBits_clearBit (w : Word) (i : Nat) : setBits (w &&& ~~~(1#32 <<< i)) = (setBits w).erase i := by
  have hnodup : (setBits w).Nodup := List.nodup_range.filter _
  rw [hnodup.erase_eq_filter, setBits, setBits, List.filter_filter]
  refine List.filter_congr fun j hj => ?_
  rw [getLsbD_clearBit w i (List.mem_range.1 hj), Bool.and_comm, decide_not, bne, beq_eq_decide]

/-- The dispatches of pending bit `i` of group `g`: the bit's line, or with `route` the broadcast line, or none. -/
def bitDispatches (e : Env) (g : Group) (i : Nat) (s : State) : List DispatchRec :=
  match s.lookup (e.par.funcOf g) (groupBase e.par g ||| BitVec.ofNat 32 i) with
  | some v => [{ virq := v, hwirq := groupBase e.par g ||| BitVec.ofNat 32 i }]
  | none =>
    match e.par.broadcastDemux, s.lookup (e.par.funcOf g) (encHwirq (e.par.funcOf g) bcast) with
    | .route, some vb =>
      if i < e.par.subfuncCount (e.par.funcOf g) then [{ virq := vb, hwirq := encHwirq (e.par.funcOf g) bcast }] else []
    | _, _ => []

/-- The state with these dispatches logged, or with one more `DIAG_SKIP` if there is none. -/
def logOrSkip (s : State) (out : List DispatchRec) : State :=
  { s with dlog := s.dlog ++ out, diagSkip := if out = [] then s.diagSkip + 1 else s.diagSkip }

theorem logOrSkip_nil (s : State) : logOrSkip s [] = { s with diagSkip := s.diagSkip + 1 } := by
  rw [logOrSkip, List.append_nil, if_pos rfl]

theorem logOrSkip_one (s : State) (v h : Word) : logOrSkip s [{ virq := v, hwirq := h }] = s.emit v h := rfl

theorem logOrSkip_dmx (s : State) (out : List DispatchRec) : (logOrSkip s out).dmx = s.dmx := rfl

/-- Handling a bit logs its dispatch, or counts it when there is none. -/
theorem demuxBit_eq (e : Env) (g : Group) (i : Nat) (s : State) :
    demuxBit e g i s = logOrSkip s (bitDispatches e g i s) := by
  unfold demuxBit bitDispatches
  dsimp only
  cases s.lookup (e.par.funcOf g) (groupBase e.par g ||| BitVec.ofNat 32 i) with
  | some v => exact (logOrSkip_one s v _).symm
  | none =>
    cases e.par.broadcastDemux with
    | skip => exact (logOrSkip_nil s).symm
    | route =>
      cases s.lookup (e.par.funcOf g) (encHwirq (e.par.funcOf g) bcast) with
      | none => exact (logOrSkip_nil s).symm
      | some vb =>
        dsimp only
        split
        · exact (logOrSkip_one s vb _).symm
        · exact (logOrSkip_nil s).symm

theorem stepDemux_dispatching {e : Env} {g : Group} {s : State} (h : (s.dmx.get g).phase = .dispatching) :
    stepDemux e g s = demuxT5 e g s := by rw [stepDemux, h]

/-- T5 with a bit left: the run handles it, and goes on with that bit cleared. -/
theorem demuxT5_of_chosen {e : Env} {g : Group} {s : State} {i : Nat}
    (hi : chooseBit e (s.dmx.get g).pendLeft s.tick = some i) :
    demuxT5 e g s = (demuxBit e g i s).setDmx g
      { phase := if (s.dmx.get g).pendLeft &&& ~~~(1#32 <<< i) = 0 then .idle else .dispatching
        pendLeft := (s.dmx.get g).pendLeft &&& ~~~(1#32 <<< i) } := by rw [demuxT5, hi]

/-- Settles O40: the draw picks a set bit, whose handling `demuxBit_eq` gives; the rest is about the cleared bit. -/
theorem dispatchBit : Obligations.DispatchBit := by
  intro s g hturn hphase hleft
  obtain ⟨i, hi⟩ := Option.ne_none_iff_exists'.1 (mt (chooseBit_eq_none_iff Config.env _ s.tick).1 hleft)
  obtain ⟨hlt, hbit⟩ := chooseBit_eq_some hi
  have hmem : i ∈ setBits (s.dmx.get g).pendLeft := (mem_setBits _ i).2 ⟨hlt, hbit⟩
  have hstep := step_of_dmx hturn
  rw [stepDemux_dispatching hphase, demuxT5_of_chosen hi, demuxBit_eq] at hstep
  refine ⟨i, _, _, _, bitDispatches Config.env g i s, hlt, hbit, hstep, rfl, rfl, rfl, rfl, fun g' hne => ?_, ?_⟩
  · rw [State.setDmx_dmx, PerGroup.get_set, if_neg hne, logOrSkip_dmx]
  · rw [State.setDmx_dmx, PerGroup.get_set, if_pos rfl]
    refine ⟨fun j hj => getLsbD_clearBit _ i hj, ?_, rfl⟩
    rw [setBits_clearBit, List.length_erase_add_one hmem]

/-! ## The default agent (R199) -/

theorem step_of_dflt {s : State} (h : s.turn = .dflt) :
    step s = .next ((stepDefault Config.env s).advance Config.env) :=
  step_of_stepTurn (by rw [h]; rfl)

/-- The default lookup is that of the function in bits 15:8. -/
theorem lookupHwirq_of_fn {h : Word} {f : FnId} (hf : (h.extractLsb' 8 8).toNat = f.val) (s : State) :
    lookupHwirq s h = s.lookup f h := by rw [lookupHwirq, fnId?_eq_some hf]

theorem stepDefault_of_empty {e : Env} {s : State} (hempty : s.ependH = []) : stepDefault e s = s := by
  rw [stepDefault, (chooseHwirq_eq_none_iff e s.ependH s.tick).2 hempty]

/-- Some pending hwirq is taken out of the set, then its line dispatched or the hwirq counted. -/
theorem stepDefault_of_chosen {e : Env} {s : State} {h : Word} {f : FnId}
    (hchosen : chooseHwirq e s.ependH s.tick = some h) (hf : (h.extractLsb' 8 8).toNat = f.val) :
    stepDefault e s = match s.lookup f h with
      | some v => { s with ependH := setErase h s.ependH, dlog := s.dlog ++ [{ virq := v, hwirq := h }] }
      | none => { s with ependH := setErase h s.ependH, diagSpurious := s.diagSpurious + 1 } := by
  rw [stepDefault, hchosen]
  dsimp only
  rw [lookupHwirq_of_fn hf]
  cases s.lookup f h <;> rfl

/-- Settles O41: the draw picks a member of a set that is not empty, and a valid hwirq names a function. -/
theorem defaultStep : Obligations.DefaultStep := by
  intro s hturn
  refine ⟨fun hempty => ?_, fun hne hvalid => ?_⟩
  · rw [step_of_dflt hturn, stepDefault_of_empty hempty]
  · obtain ⟨h, hchosen⟩ := Option.ne_none_iff_exists'.1 (mt (chooseHwirq_eq_none_iff Config.env _ s.tick).1 hne)
    have hmem := chooseHwirq_eq_some hchosen
    obtain ⟨⟨f, l⟩, hdec⟩ := Option.isSome_iff_exists.1 (hvalid h hmem)
    obtain ⟨-, -, hf, -⟩ := (decHwirq_eq_some_iff h f l).1 hdec
    exact ⟨h, setErase h s.ependH, f, hmem, hf, fun x => mem_setErase h x _,
      (step_of_dflt hturn).trans (congrArg (Host.Outcome.next ∘ State.advance _) (stepDefault_of_chosen hchosen hf))⟩

/-! ## The frame of glue control and EDGE (R192, R193, R210–R213) -/

/-- The frame of GINIT and GDEINIT. -/
def ControlFrame (s t : State) : Prop :=
  t = { s with ports := t.ports, glueInit := t.glueInit, variantLatch := t.variantLatch, glueWin := t.glueWin,
               fltCode := t.fltCode, fltInfo := t.fltInfo, fltCount := t.fltCount }

theorem controlFrame_initGlue (e : Env) (s : State) : ControlFrame s (initGlue e s) := by
  obtain ⟨-, hc⟩ | ⟨-, hc⟩ := initGlue_cases e s <;> rw [hc] <;> rfl

theorem controlFrame_deinitGlue (e : Env) (s : State) : ControlFrame s (deinitGlue e s) := by
  obtain ⟨_, _, -, hc⟩ | ⟨-, -, hc⟩ := deinitGlue_cases e s <;> rw [hc] <;> rfl

/-- The frame of an event: the pending edges and the spurious count. -/
theorem acceptEdge_frame (e : Env) (h : Word) (s t : State) (ht : t = acceptEdge e h s) :
    t = { s with ependG := t.ependG, ependH := t.ependH, diagSpurious := t.diagSpurious } := by
  obtain ⟨-, hc⟩ | ⟨_, _, _, -, -, -, -, hc⟩ | ⟨_, _, -, -, hc⟩ := acceptEdge_cases e h s <;> rw [ht, hc]

/-- An event sets no other group's bit than that of the function in bits 15:8. -/
theorem acceptEdge_other_group {h : Word} {g : Group}
    (hg : h.extractLsb' 8 8 ≠ BitVec.ofNat 8 (Config.params.funcOf g).val) (s : State) :
    (acceptEdge Config.env h s).ependG.get g = s.ependG.get g := by
  obtain ⟨-, hc⟩ | ⟨f, l, g', hdec, -, -, hgroup, hc⟩ | ⟨_, _, -, -, hc⟩ := acceptEdge_cases Config.env h s <;> rw [hc]
  obtain ⟨-, -, hf, -⟩ := (decHwirq_eq_some_iff h f l).1 hdec
  have hne : g ≠ g' := by
    rintro rfl
    rw [← (groupOf_eq_some_iff f g).1 hgroup, ← hf, BitVec.ofNat_toNat, BitVec.setWidth_eq] at hg
    exact hg rfl
  rw [PerGroup.get_set, if_neg hne]

/-- Settles O50: each one's frame. -/
theorem controlEdgeFrame : Obligations.ControlEdgeFrame := by
  intro s t h
  refine ⟨fun ht => ?_, fun ht => ?_, fun ht => ?_⟩
  · obtain ht | ht := ht <;> obtain rfl := Host.Outcome.next.inj ht
    · exact controlFrame_initGlue _ s
    · exact controlFrame_deinitGlue _ s
  · obtain ht | ht := ht <;> obtain rfl := Host.Outcome.next.inj ht <;> rfl
  · obtain rfl := Host.Outcome.next.inj ht
    exact ⟨acceptEdge_frame _ h s _ rfl, fun _ hg => acceptEdge_other_group hg s⟩

end Sys2Proof
end

section
/-! PROOFS. O36, O37: GINIT, GDEINIT, SUSPEND and RESUME, their checks and their effects (R210–R213). -/

namespace Sys2Proof

open Sys2Proof.Machine

section
variable {e : Env} {s : State}

theorem initGlue_initialized (hinit : s.glueInit = true) :
    initGlue e s = s.raise .controlState (controlInfo 0x30 0) := if_pos hinit

theorem initGlue_ok (hinit : s.glueInit = false) : initGlue e s =
    State.respond { s with glueInit := true, variantLatch := e.par.strap, glueWin := e.par.winIndex e.par.strap }
      .ok [] := if_neg (Bool.not_eq_true _ ▸ hinit)

theorem deinitGlue_notInitialized (hinit : s.glueInit = false) :
    deinitGlue e s = s.raise .notInitialized (opcInfo 0x31) := if_pos hinit

variable (hinit : s.glueInit = true)
include hinit

theorem deinitGlue_begun {f : FnId} (hf : s.firstBegun = some f) :
    deinitGlue e s = s.raise .controlState (controlInfo 0x31 f) := by
  simp only [deinitGlue, hinit, Bool.true_eq_false, if_false, hf]

theorem deinitGlue_ok (hnone : s.firstBegun = none) : deinitGlue e s =
    State.respond { s with glueInit := false, variantLatch := e.freeVariant s.tick, glueWin := e.freeWin s.tick }
      .ok [] := by
  simp only [deinitGlue, hinit, Bool.true_eq_false, if_false, hnone]

end

/-- Settles O36: the lowest begun function is the search's, and the values GDEINIT leaves are the draws of its step. -/
theorem glueControlRule : Obligations.GlueControlRule := by
  intro s
  simp only [exec_ginit, exec_gdeinit]
  exact ⟨by decide, by decide, fun hinit => congrArg _ (initGlue_initialized hinit),
    fun hinit => congrArg _ (initGlue_ok hinit), fun hinit => congrArg _ (deinitGlue_notInitialized hinit),
    fun f hinit hdom hlow => congrArg _ (deinitGlue_begun hinit ((firstBegun_eq_some_iff s f).2 ⟨hdom, hlow⟩)),
    fun hinit hunbuilt => ⟨_, _, congrArg _ (deinitGlue_ok hinit ((firstBegun_eq_none_iff s).2 hunbuilt))⟩⟩

/-- Settles O37: neither command checks anything; each one's meaning is its response. -/
theorem suspendResumeRule : Obligations.SuspendResumeRule := fun s =>
  ⟨by decide, by decide, exec_suspend s, exec_resume s⟩

end Sys2Proof
end

section
/-! PROOFS. O7: only the removal of the block stops the machine (R226, R228, R250). -/

namespace Sys2Proof

open Sys2Proof.Machine

theorem stepRequester_next (r : Nat) (s : State) : ∃ t, stepRequester r s = .next t := by
  unfold stepRequester
  split
  · exact ⟨_, rfl⟩
  · split
    · exact ⟨_, rfl⟩
    · split
      · exact exec_next _ _
      · exact ⟨_, rfl⟩
      · exact ⟨_, rfl⟩

theorem stepEnvironment_next {a : Arrival} (ha : a ≠ .remove) (s : State) : ∃ t, stepEnvironment a s = .next t := by
  cases a with
  | remove => exact absurd rfl ha
  | _ => exact ⟨_, rfl⟩

theorem step_next {s : State} (hturn : s.turn ≠ .env .remove) : ∃ t, step s = .next t := by
  obtain ⟨u, hu⟩ : ∃ u, stepTurn s.turn s = .next u := by
    cases ht : s.turn with
    | req r => exact stepRequester_next r s
    | dmx g => exact ⟨_, rfl⟩
    | dflt => exact ⟨_, rfl⟩
    | env a => exact stepEnvironment_next (fun ha => hturn (ht.trans (congrArg Turn.env ha))) s
  exact ⟨_, step_of_stepTurn hu⟩

theorem step_of_remove {s : State} (hturn : s.turn = .env .remove) : step s = .fault .removed := by
  rw [step, hturn]
  rfl

/-- Settles O7: the removal is a fault, and every other step has a next state. -/
theorem onlyRemovalStops : Obligations.OnlyRemovalStops := by
  intro s
  by_cases hturn : s.turn = .env .remove
  · rw [step_of_remove hturn]
    exact ⟨iff_of_true ⟨_, rfl⟩ hturn, nofun⟩
  · obtain ⟨t, ht⟩ := step_next hturn
    rw [ht]
    exact ⟨iff_of_false nofun hturn, nofun⟩

end Sys2Proof
end

section
/-! PROOFS. O43, O45: a command that fails changes only what its status names, and no reserved status is answered
(R220–R224). `HoldsOrAnswers` forgets the status and the rest of the state; `CommandStep` keeps both. -/

namespace Sys2Proof

open Sys2Proof.Machine

/-! ## The answers of a command and what each leaves unchanged (R220–R224) -/

/-- The statuses reserved for ResourceBusy and MappingFailed (R220). -/
def Reserved (st : Status) : Prop := st = .resourceBusy ∨ st = .mappingFailed

/-- The errors that are answered with every domain as it was (R223). -/
def PlainError (st : Status) : Prop :=
  st ∈ [Status.domainCreationFailed, .allocationTableExhausted, .domainOrder, .noDomain, .grantFailed]

theorem PlainError.ne_secondaryDomainFailed {st : Status} (h : PlainError st) : st ≠ .secondaryDomainFailed := by
  rintro rfl
  simp [PlainError] at h

theorem PlainError.isFault {st : Status} (h : PlainError st) : st.isFault = false := by
  simp only [PlainError, List.mem_cons, List.not_mem_nil, or_false] at h
  obtain rfl | rfl | rfl | rfl | rfl := h <;> rfl

theorem PlainError.not_reserved {st : Status} (h : PlainError st) : ¬ Reserved st := by
  rintro (rfl | rfl) <;> simp [PlainError] at h

theorem not_reserved_of_isFault {st : Status} (h : st.isFault = true) : ¬ Reserved st := by
  rintro (rfl | rfl) <;> exact absurd h (by decide)

theorem isError_eq_false_of_isFault {st : Status} (h : st.isFault = true) : st.isError = false := by
  rw [Status.isError, h, Bool.not_true, Bool.and_false]

/-- What one step of a command does, by its answer: what a failure changes is written out, what OK changes is left open.
An edge event, which is no command, is accepted without an answer. -/
inductive CommandStep (s : State) : State → Prop where
  | event {t : State} (hports : t.ports = s.ports) : CommandStep s t
  | held {u : State} (w : Work) (hu : SamePorts s u) : CommandStep s (u.hold w)
  | ok {u : State} (rs : List Word) (hu : SamePorts s u) : CommandStep s (u.respond .ok rs)
  | fault {f : Status} (info : Word) (hf : f.isFault = true) : CommandStep s (s.raise f info)
  | error {st : Status} (log : List PdRequest) (hst : PlainError st) :
    CommandStep s (State.respond { s with pdLog := log } st [])
  | secondaryFailed {f : FnId} (log : List PdRequest) (hdom : s.dom[f] = .unbuilt) :
    CommandStep s (State.respond { s with dom := s.dom.set f .failed, pdLog := log } .secondaryDomainFailed [])

/-- An error answered in the very state the command began in. -/
theorem PlainError.respond {st : Status} (hst : PlainError st) (s : State) : CommandStep s (s.respond st []) :=
  .error s.pdLog hst

/-! ## The first steps of the commands -/

theorem commandStep_checkRal {s k : State} (e : Env) (opc : BitVec 8) (off : Word) (hk : CommandStep s k) :
    CommandStep s (checkRal e opc off s k) := by
  obtain ⟨-, hc⟩ | ⟨-, -, hc⟩ | ⟨-, -, hc⟩ := checkRal_cases e opc off s k <;> rw [hc]
  · exact .fault _ rfl
  · exact .fault _ rfl
  · exact hk

theorem commandStep_withLine {s : State} {k : SlotIx → State} (opc : BitVec 8) (virq : Word)
    (hk : ∀ i : SlotIx, CommandStep s (k i)) : CommandStep s (withLine opc virq s k) := by
  obtain ⟨-, hc⟩ | ⟨-, -, hc⟩ | ⟨_, -, -, -, hc⟩ | ⟨i, -, -, -, hc⟩ := withLine_cases opc virq s k <;> rw [hc]
  · exact .fault _ rfl
  · exact .fault _ rfl
  · exact .fault _ rfl
  · exact hk i

section
variable (e : Env) (s : State)

theorem commandStep_allocate (fn sf : BitVec 8) (virq : Word) : CommandStep s (allocate e fn sf virq s) := by
  obtain ⟨_, _, hf, hc⟩ | ⟨st, hst, hc⟩ | ⟨_, _, _, -, -, -, -, -, -, -, -, -, hc⟩ := allocate_cases e fn sf virq s <;>
    rw [hc]
  · exact .fault _ hf
  · have hplain : PlainError st := by
      obtain rfl | rfl := hst <;> simp [PlainError]
    exact hplain.respond s
  · exact .ok _ ⟨rfl, rfl⟩

theorem commandStep_composeMsg (virq : Word) : CommandStep s (composeMsg e virq s) := by
  obtain ⟨-, hc⟩ | ⟨_, _, hf, hc⟩ | ⟨_, -, -, -, hc⟩ := composeMsg_cases e virq s <;> rw [hc]
  · exact .ok _ ⟨rfl, rfl⟩
  · exact .fault _ hf
  · exact .ok _ ⟨rfl, rfl⟩

theorem commandStep_writeMsg (virq addr data : Word) : CommandStep s (writeMsg e virq addr data s) := by
  refine commandStep_withLine _ virq fun i => ?_
  split
  · exact .ok _ ⟨rfl, rfl⟩
  · exact .held _ ⟨rfl, rfl⟩

theorem commandStep_maskLine (virq : Word) : CommandStep s (maskLine e virq s) :=
  commandStep_withLine _ virq fun _ => .held _ ⟨rfl, rfl⟩

theorem commandStep_unmaskLine (virq : Word) : CommandStep s (unmaskLine e virq s) := by
  refine commandStep_withLine _ virq fun i => ?_
  split
  · exact .fault _ rfl
  · exact .held _ ⟨rfl, rfl⟩

theorem commandStep_releaseLine (virq : Word) : CommandStep s (releaseLine e virq s) := by
  refine commandStep_withLine _ virq fun i => ?_
  split
  · exact .fault _ rfl
  · exact .ok _ ⟨rfl, rfl⟩

theorem commandStep_assignVectors (fn : BitVec 8) (n g : Word) : CommandStep s (assignVectors e fn n g s) := by
  obtain ⟨_, _, hf, hc⟩ | ⟨st, hst, hc⟩ | ⟨_, -, -, -, -, -, -, -, -, ⟨-, hc⟩ | ⟨-, hc⟩⟩ :=
    assignVectors_cases e fn n g s <;> rw [hc]
  · exact .fault _ hf
  · have hplain : PlainError st := by
      obtain rfl | rfl := hst <;> simp [PlainError]
    exact hplain.respond s
  · exact .ok _ ⟨rfl, rfl⟩
  · exact .ok _ ⟨rfl, rfl⟩

theorem commandStep_freeVectors (fn : BitVec 8) : CommandStep s (freeVectors fn s) := by
  obtain ⟨_, _, hf, hc⟩ | ⟨_, -, -, -, hc⟩ := freeVectors_cases fn s <;> rw [hc]
  · exact .fault _ hf
  · exact .ok _ ⟨rfl, rfl⟩

/-- A primary that is not built stays Unbuilt, another domain that is not built becomes Failed (R173). -/
theorem commandStep_buildOne (fn : BitVec 8) : CommandStep s (buildOne e fn s) := by
  obtain ⟨_, _, hf, hc⟩ | hc | ⟨_, -, -, hdom, -, hc⟩ | ⟨_, -, -, hdom, -, -, hc⟩ := buildOne_cases e fn s <;> rw [hc]
  · exact .fault _ hf
  · exact PlainError.respond (by simp [PlainError]) s
  · rw [respond_buildDomain_askRemap e _ hdom]
    split
    · exact .ok _ ⟨rfl, rfl⟩
    · exact .error _ (by simp [PlainError])
  · rw [respond_buildDomain]
    split
    · exact .ok _ ⟨rfl, rfl⟩
    · exact .secondaryFailed _ hdom

theorem commandStep_buildAll : CommandStep s (buildAll e s) := by
  obtain ⟨_, _, hf, hc⟩ | ⟨-, hnone, hfail, hc⟩ | ⟨-, -, -, hc⟩ := buildAll_cases e s <;> rw [hc]
  · exact .fault _ hf
  · have hdom := (firstBegun_eq_none_iff s).1 hnone e.par.primary
    have hanswer := respond_buildDomain_askRemap e (drawnParent e s) hdom .domainCreationFailed
    simp only [hfail, Bool.false_eq_true, if_false] at hanswer
    rw [hanswer]
    exact .error _ (by simp [PlainError])
  · have hprimary := sameUse_buildDomain_askRemap e (drawnParent e s) .unbuilt e.par.primary s
    exact .ok _ (hprimary.trans (sameUse_foldl_buildDomain e _ _ _ _)).samePorts

theorem commandStep_tearDown : CommandStep s (tearDown e s) := by
  obtain ⟨_, _, hf, hc⟩ | ⟨-, -, hc⟩ := tearDown_cases e s <;> rw [hc]
  · exact .fault _ hf
  · exact .ok _ ⟨rfl, rfl⟩

theorem commandStep_queryLookup (fn sf : BitVec 8) : CommandStep s (queryLookup fn sf s) := by
  obtain ⟨_, _, hf, hc⟩ | ⟨_, _, -, -, -, ⟨-, hc⟩ | ⟨_, -, hc⟩⟩ := queryLookup_cases fn sf s <;> rw [hc]
  · exact .fault _ hf
  · exact .ok _ ⟨rfl, rfl⟩
  · exact .ok _ ⟨rfl, rfl⟩

theorem commandStep_initGlue : CommandStep s (initGlue e s) := by
  obtain ⟨-, hc⟩ | ⟨-, hc⟩ := initGlue_cases e s <;> rw [hc]
  · exact .fault _ rfl
  · exact .ok _ ⟨rfl, rfl⟩

theorem commandStep_deinitGlue : CommandStep s (deinitGlue e s) := by
  obtain ⟨_, _, hf, hc⟩ | ⟨-, -, hc⟩ := deinitGlue_cases e s <;> rw [hc]
  · exact .fault _ hf
  · exact .ok _ ⟨rfl, rfl⟩

end

/-- The first step of every command, and the acceptance of an event. -/
theorem commandStep_exec {i : Instr} {s t : State} (h : exec i s = .next t) : CommandStep s t := by
  cases i <;> obtain rfl := Host.Outcome.next.inj h
  case rd32 off => exact commandStep_checkRal _ _ off (.ok _ ⟨rfl, rfl⟩)
  case wr32 off v => exact commandStep_checkRal _ _ off (.ok _ ⟨rfl, rfl⟩)
  case setm off m => exact commandStep_checkRal _ _ off (.held _ ⟨rfl, rfl⟩)
  case clrm off m => exact commandStep_checkRal _ _ off (.held _ ⟨rfl, rfl⟩)
  case maskset off c m => exact commandStep_checkRal _ _ off (.held _ ⟨rfl, rfl⟩)
  case alloc fn sf v => exact commandStep_allocate _ s fn sf v
  case allocb fn v => exact commandStep_allocate _ s fn 0x1F v
  case compose v => exact commandStep_composeMsg _ s v
  case wrmsg v a d => exact commandStep_writeMsg _ s v a d
  case mask v => exact commandStep_maskLine _ s v
  case unmask v => exact commandStep_unmaskLine _ s v
  case free v => exact commandStep_releaseLine _ s v
  case assign fn n g => exact commandStep_assignVectors _ s fn n g
  case freei fn => exact commandStep_freeVectors s fn
  case dbuild fn => exact commandStep_buildOne _ s fn
  case dbuildall => exact commandStep_buildAll _ s
  case dtear => exact commandStep_tearDown _ s
  case dlookup fn sf => exact commandStep_queryLookup s fn sf
  case ginit => exact commandStep_initGlue _ s
  case gdeinit => exact commandStep_deinitGlue _ s
  case suspend => exact .ok _ ⟨rfl, rfl⟩
  case resume => exact .ok _ ⟨rfl, rfl⟩
  case edge ev => exact .event (sameUse_acceptEdge _ ev s).ports

/-- WRMSG's S2 to S6 hold the command, every other later step answers OK. -/
theorem commandStep_resumeWork (e : Env) (w : Work) (s : State) : CommandStep s (resumeWork e w s) := by
  cases w with
  | wrmsgS2 | wrmsgS3 | wrmsgS4 | wrmsgS5 | wrmsgS6 => exact .held _ ⟨rfl, rfl⟩
  | _ => exact .ok _ ⟨rfl, rfl⟩

/-! ## What a failed command leaves unchanged (R223, R226) -/

section
variable {s u : State} {r : Nat} {p q : Port}

/-- A response that the issuing port has gained is the one just given. -/
theorem SamePorts.answer_status (hu : SamePorts s u) (hturn : s.turn = .req r) (hp : s.ports[r]? = some p)
    {st : Status} {rs : List Word} (hq : (u.respond st rs).ports[r]? = some q) {a : Response}
    (ha : q.responses = p.responses ++ [a]) : a.status = st := by
  rw [respond_issuer_port st rs (hu.turn.trans hturn) (by rw [hu.ports, hp])] at hq
  obtain rfl := Option.some.inj hq
  obtain ⟨-, hlast⟩ := List.append_inj' ha rfl
  rw [← List.singleton_inj.1 hlast]

/-- A port that is held has gained no response. -/
theorem SamePorts.held_responses (hu : SamePorts s u) (hturn : s.turn = .req r) (hp : s.ports[r]? = some p)
    {w : Work} (hq : (u.hold w).ports[r]? = some q) : q.responses = p.responses := by
  rw [hold_issuer_port w (hu.turn.trans hturn) (by rw [hu.ports, hp])] at hq
  obtain rfl := Option.some.inj hq
  rfl

end

/-- Settles O43: a step that gives no response does not meet the hypotheses, OK is no failure, and each of the three
failures has its own frame. -/
theorem failedCommandsChangeNothing : Obligations.FailedCommandsChangeNothing := by
  intro s t i r p q a hturn hp ht hq ha
  cases commandStep_exec ht with
  | event hports =>
    rw [hports, hp] at hq
    obtain rfl := Option.some.inj hq
    exact absurd ha (by simp)
  | held w hu =>
    rw [hu.held_responses hturn hp hq] at ha
    exact absurd ha (by simp)
  | ok rs hu =>
    rw [hu.answer_status hturn hp hq ha]
    exact ⟨nofun, nofun, nofun⟩
  | fault info hf =>
    rw [SamePorts.answer_status ⟨rfl, rfl⟩ hturn hp hq ha]
    refine ⟨fun _ => rfl, fun he => ?_, ?_⟩
    · exact absurd ((isError_eq_false_of_isFault hf).symm.trans he) Bool.false_ne_true
    · rintro rfl
      exact absurd hf (by decide)
  | error log hst =>
    rw [SamePorts.answer_status ⟨rfl, rfl⟩ hturn hp hq ha]
    exact ⟨fun hf => absurd (hst.isFault.symm.trans hf) Bool.false_ne_true, fun _ _ => rfl,
      fun h => absurd h hst.ne_secondaryDomainFailed⟩
  | secondaryFailed log hdom =>
    rw [SamePorts.answer_status ⟨rfl, rfl⟩ hturn hp hq ha]
    exact ⟨nofun, fun _ hne => absurd rfl hne, fun _ => ⟨_, hdom, rfl⟩⟩

/-! ## The reserved statuses (R220) -/

theorem StatusInv.of_ports {s t : State} (hs : StatusInv s) (hports : t.ports = s.ports) : StatusInv t := by
  rw [StatusInv, hports]
  exact hs

/-- A change of one port that adds only responses whose status is not reserved. -/
theorem StatusInv.onPort {s : State} (hs : StatusInv s) (r : Nat) {g : Port → Port}
    (hg : ∀ p, ∀ a ∈ (g p).responses, a ∈ p.responses ∨ ¬ Reserved a.status) : StatusInv (s.onPort r g) := by
  intro p hp a ha
  obtain ⟨k, hk⟩ := List.mem_iff_getElem?.1 hp
  rw [State.onPort_ports, List.getElem?_modify] at hk
  obtain ⟨p', hp', rfl⟩ := Option.map_eq_some_iff.1 hk
  have hold := hs p' (List.mem_of_getElem? hp')
  split at ha
  · exact (hg p' a ha).elim (hold a) not_or.1
  · exact hold a ha

theorem StatusInv.hold {s : State} (hs : StatusInv s) (w : Work) : StatusInv (s.hold w) :=
  hs.onPort _ fun _ _ ha => .inl ha

theorem StatusInv.respond {s : State} (hs : StatusInv s) {st : Status} (hst : ¬ Reserved st) (rs : List Word) :
    StatusInv (s.respond st rs) := by
  refine hs.onPort _ fun p a ha => ?_
  obtain ha | ha := List.mem_append.1 ha
  · exact .inl ha
  · rw [List.mem_singleton.1 ha]
    exact .inr hst

theorem CommandStep.statusInv {s t : State} (h : CommandStep s t) (hs : StatusInv s) : StatusInv t := by
  cases h with
  | event hports => exact hs.of_ports hports
  | held w hu => exact (hs.of_ports hu.ports).hold w
  | ok rs hu => exact (hs.of_ports hu.ports).respond (by simp [Reserved]) rs
  | fault info hf => exact StatusInv.respond (hs.of_ports rfl) (not_reserved_of_isFault hf) []
  | error log hst => exact StatusInv.respond (hs.of_ports rfl) hst.not_reserved []
  | secondaryFailed log hdom => exact StatusInv.respond (hs.of_ports rfl) (by simp [Reserved]) []

theorem statusInv_stepRequester {s t : State} {r : Nat} (hs : StatusInv s) (h : stepRequester r s = .next t) :
    StatusInv t := by
  have htake : ∀ rest, StatusInv (s.takeWords r rest) := fun rest => hs.onPort r fun _ _ ha => .inl ha
  obtain rfl | ⟨_, w, -, -, rfl⟩ | ⟨_, i, rest, -, -, -, hx⟩ | ⟨_, hd, rest, -, -, -, rfl⟩ := stepRequester_cases h
  · exact hs
  · exact (commandStep_resumeWork _ w s).statusInv hs
  · exact (commandStep_exec hx).statusInv (htake rest)
  · exact (CommandStep.fault hd rfl).statusInv (htake rest)

theorem statusInv_stepEnvironment {s t : State} {a : Arrival} (hs : StatusInv s) (h : stepEnvironment a s = .next t) :
    StatusInv t := by
  obtain ⟨-, rfl⟩ | ⟨r, w, -, rfl⟩ | ⟨ev, -, rfl⟩ | ⟨-, rfl⟩ := stepEnvironment_cases h
  · exact hs
  · exact hs.onPort r fun _ _ ha => .inl ha
  · exact hs.of_ports (sameUse_acceptEdge _ ev s).ports
  · intro p hp
    rw [State.create_ports] at hp
    obtain ⟨p', hp', rfl⟩ := List.mem_map.1 hp
    exact hs p' hp'

/-- Settles O45: a command answers no reserved status, and the other agents give no response. -/
theorem statusesNeverProduced : Obligations.StatusesNeverProduced := by
  intro s t hs hstep
  obtain ⟨u, rfl, hagent⟩ := step_cases hstep
  have hu : StatusInv u := by
    obtain ⟨r, -, hr⟩ | ⟨g, -, rfl⟩ | ⟨-, rfl⟩ | ⟨a, -, ha⟩ := hagent
    · exact statusInv_stepRequester hs hr
    · exact hs.of_ports (sameUse_stepDemux _ g s).ports
    · exact hs.of_ports (sameUse_stepDefault _ s).ports
    · exact statusInv_stepEnvironment hs ha
  exact hu.of_ports rfl

end Sys2Proof
end
